-- ==== Sys2Proof/Word.lean ====
section
/-! DEFINITION. The word types of the QSPI flash engine: 8-bit bytes and 32-bit register words (spec/00_scope.md R8, R9). -/

namespace Sys2Proof

/-- A byte of the bus, of SEQBUF or of the flash array. -/
abbrev Byte := BitVec 8

/-- A register value or an address: all register widths and all flash addresses are 32 bits (R8). -/
abbrev Word := BitVec 32

end Sys2Proof
end

