-- ==== Sys2Proof/Syntax.lean ====
section
/-! DEFINITION. The syntax of the machine: one constructor of `Instr` per row of spec/opcode_table.json, the operands
they carry, the host accesses that are no row of the table (`PlainOp`), and the forms all of them have outside the
machine: the host's access tuple (R103) and the frame on the flash bus (R110). -/

namespace Sys2Proof

/-- The vendor variant of a build (R3). -/
inductive Variant
  | A | B
deriving DecidableEq, Repr, Inhabited

/-- The seven width combinations a frame may have, `c-a-d` lanes (R87, codes 0 to 6). -/
inductive WidthCode
  | w111 | w112 | w114 | w122 | w144 | w222 | w444
deriving DecidableEq, Repr, Inhabited

/-- The five transfer kinds (R90, R112). -/
inductive Kind
  | cmd | regRead | regWrite | memRead | memWrite
deriving DecidableEq, Repr, Inhabited

/-- The access sizes the QFE accepts, in bytes: 1, 2 or 4 (R67). -/
inductive AccessSize
  | b1 | b2 | b4
deriving DecidableEq, Repr, Inhabited

/-- The fields of a frame descriptor of one of the five kinds (R86), without the bits its row fixes. -/
structure DescFields where
  /-- WIDTH[2:0]; 7 is matched by the rows and refused by R93. -/
  width : BitVec 3
  /-- ADDREN[5]. -/
  addrEn : Bool
  /-- OPTCODEEN[6]. -/
  optEn : Bool
  /-- OPTCODELEN[9:8]. -/
  optLen : BitVec 2
  /-- ADDRLEN[10]: true is a 32-bit address. -/
  addrLen : Bool
  /-- DUMMYLEN[19:16]. -/
  dummy : BitVec 4
deriving DecidableEq, Repr, Inhabited

/-- Every phase of a frame but its opcode (R110, R111). -/
structure FrameShape where
  /-- The lanes of each phase (R87). -/
  width : WidthCode
  /-- The address phase is present. -/
  addrEn : Bool
  /-- The address phase has 32 bits (24 otherwise); ignored when there is none (R89). -/
  addr32 : Bool
  /-- The 32-bit frame address `A`, of which 24 or 32 bits are sent. -/
  addr : Word
  /-- The option phase is present. -/
  optEn : Bool
  /-- The option phase has `2 ^ optLen` bits (R88). -/
  optLen : BitVec 2
  /-- The option byte, of which the low `2 ^ optLen` bits are sent. -/
  opt : Byte
  /-- The dummy-cycle count, 0 to 15 (R91). -/
  dummy : BitVec 4
  /-- The transfer kind (R90). -/
  kind : Kind
deriving DecidableEq, Repr, Inhabited

/-- A frame record (R110). -/
structure Frame extends FrameShape where
  /-- The opcode byte. -/
  instr : Byte
deriving DecidableEq, Repr, Inhabited

/-- A whole frame as the device sees it: the record, the data bytes sent to it, and how many bytes are read from it. -/
structure BusFrame where
  frame : Frame
  /-- The data bytes of a write kind, first byte first. -/
  out : List Byte
  /-- How many data bytes a read kind reads. -/
  nIn : Nat
deriving DecidableEq, Repr, Inhabited

/-- What a device row of the opcode table leaves open: a whole frame without its opcode byte. -/
structure BusBody where
  shape : FrameShape
  out : List Byte
  nIn : Nat
deriving DecidableEq, Repr, Inhabited

/-- The two registers CRC.RESULT reads (R245). -/
inductive ResultReg
  | crcresult | crcstatus
deriving DecidableEq, Repr, Inhabited

/-- The instructions: one constructor per row of spec/opcode_table.json, in the table's order. -/
inductive Instr
  /-- BPE.CMD (R114): a command-only descriptor written to INSTRFRAME. -/
  | bpeCmd (d : DescFields)
  /-- BPE.REGREAD (R115). -/
  | bpeRegRead (d : DescFields)
  /-- BPE.MEMREAD (R118). -/
  | bpeMemRead (d : DescFields)
  /-- BPE.REGWRITE (R116). -/
  | bpeRegWrite (d : DescFields)
  /-- BPE.MEMWRITE (R119). -/
  | bpeMemWrite (d : DescFields)
  /-- BPE.FRAME (R113): the write of any descriptor to INSTRFRAME. -/
  | bpeFrame (v : Word)
  /-- BPE.SYNC (R134): the read of INSTRFRAME. -/
  | bpeSync
  /-- BPE.LASTXFER (R131): a CTRLA write with LASTXFER = 1, SWRST = 0. -/
  | bpeLastXfer (enable : Bool)
  /-- BPE.ENABLE (R135): a CTRLA write with LASTXFER = 0, SWRST = 0. -/
  | bpeEnable (enable : Bool)
  /-- BPE.SWRST (R321): a CTRLA write with SWRST = 1. -/
  | bpeSwrst
  /-- BPE.CLRFLAG (R136, R28). -/
  | bpeClrFlag (error instrEnd seqDone : Bool)
  /-- BPE.INTENSET (R136, R27). -/
  | bpeIntenSet (error instrEnd seqDone : Bool)
  /-- BPE.INTENCLR (R136, R27). -/
  | bpeIntenClr (error instrEnd seqDone : Bool)
  /-- WIN.READ (R126): a host load at window offset `o`. -/
  | winRead (n : AccessSize) (o : Word)
  /-- WIN.WRITE (R128): a host store of `v` at window offset `o`. -/
  | winWrite (n : AccessSize) (o : Word) (v : Word)
  /-- SEQ.RESET (R165). -/
  | seqReset
  /-- SEQ.READ_JEDEC_ID (R167). -/
  | seqReadJedecId
  /-- SEQ.READ_STATUS (R169). -/
  | seqReadStatus
  /-- SEQ.WRITE_ENABLE (R171). -/
  | seqWriteEnable
  /-- SEQ.ENABLE_QUAD_IO (R175). -/
  | seqEnableQuadIo
  /-- SEQ.SECTOR_ERASE (R177). -/
  | seqSectorErase
  /-- SEQ.PAGE_PROGRAM (R179). -/
  | seqPageProgram
  /-- SEQ.HIGH_SPEED_READ (R183). -/
  | seqHighSpeedRead
  /-- SEQ.WAIT_READY (R185). -/
  | seqWaitReady
  /-- SEQ.SET_DUMMY_CYCLES (R187). -/
  | seqSetDummyCycles
  /-- SEQ.ENTER_4BYTE (R189). -/
  | seqEnter4Byte
  /-- SEQ.EXIT_4BYTE (R190). -/
  | seqExit4Byte
  /-- SEQ.CLRDONE (R39). -/
  | seqClrDone
  /-- CRC.INIT (R240): a CRCCTRL write with INIT = 1. -/
  | crcInit (snoop : Bool)
  /-- CRC.SNOOP (R244): a CRCCTRL write with INIT = 0. -/
  | crcSnoop (snoop : Bool)
  /-- CRC.FEED8 (R241). -/
  | crcFeed8 (v : BitVec 8)
  /-- CRC.FEED16 (R241). -/
  | crcFeed16 (v : BitVec 16)
  /-- CRC.FEED32 (R241). -/
  | crcFeed32 (v : BitVec 32)
  /-- CRC.LOAD (R242). -/
  | crcLoad (v : Word)
  /-- CRC.EXPECT (R243). -/
  | crcExpect (v : Word)
  /-- CRC.RESULT (R245). -/
  | crcResult (r : ResultReg)
  /-- DEV.WREN (R213). -/
  | devWren (b : BusBody)
  /-- DEV.RDSR (R214). -/
  | devRdsr (b : BusBody)
  /-- DEV.RDID (R215). -/
  | devRdid (b : BusBody)
  /-- DEV.RDID_Q (R215). -/
  | devRdidQ (b : BusBody)
  /-- DEV.SE (R217). -/
  | devSe (b : BusBody)
  /-- DEV.PP (R218). -/
  | devPp (b : BusBody)
  /-- DEV.READ_111 (R216): OP_READ(0), and OP_READ(6) in a 4-4-4 frame. -/
  | devRead111 (b : BusBody)
  /-- DEV.READ_112 (R216). -/
  | devRead112 (b : BusBody)
  /-- DEV.READ_114 (R216). -/
  | devRead114 (b : BusBody)
  /-- DEV.READ_122 (R216). -/
  | devRead122 (b : BusBody)
  /-- DEV.READ_144 (R216). -/
  | devRead144 (b : BusBody)
  /-- DEV.RSTEN (R211). -/
  | devRsten (b : BusBody)
  /-- DEV.RST (R222). -/
  | devRst (b : BusBody)
  /-- DEV.EQIO (R224). -/
  | devEqio (b : BusBody)
  /-- DEV.WREVCR (R225). -/
  | devWrevcr (b : BusBody)
  /-- DEV.WRVCR (R226). -/
  | devWrvcr (b : BusBody)
  /-- DEV.EN4B (R227). -/
  | devEn4b (b : BusBody)
  /-- DEV.EX4B (R227). -/
  | devEx4b (b : BusBody)
deriving DecidableEq, Repr

/-- The thirteen reasons for which the QFE refuses a host access (R291), in the order of their codes 1 to 13. -/
inductive FaultReason
  | reservedOffset | readOnlyWrite | badWidth | misaligned | frameBusy | sequencerBusy | illegalCommand
  | disableInFrame | noFrame | syncMissing | wrongDirection | notContiguous | fetchFromWindow
deriving DecidableEq, Repr, Inhabited

/-- The registers whose reads are no row of the opcode table (R22). INSTRFRAME, CRCRESULT and CRCSTATUS are read by
BPE.SYNC and CRC.RESULT. -/
inductive ReadReg
  | ctrla | ctrlb | baud | intenclr | intenset | intflag | status | instraddr | instrctrl
  | seqctrl | seqaddr | seqlen | seqparam | seqbudget | seqstatus | seqsr | seqid
  | crcctrl | crcdata | crcstate | crcexpect
deriving DecidableEq, Repr, Inhabited

/-- The registers whose writes are no row of the opcode table and store a value (R22). -/
inductive WriteReg
  | ctrlb | baud | instraddr | instrctrl | seqaddr | seqlen | seqparam | seqbudget
deriving DecidableEq, Repr, Inhabited

/-- The host accesses that the opcode table has no row for. -/
inductive PlainOp
  /-- A 32-bit read of a register. -/
  | readReg (r : ReadReg)
  /-- A 32-bit write of a storage register. -/
  | writeReg (r : WriteReg) (v : Word)
  /-- A SEQBUF read at byte `i` (R42, R63). -/
  | readBuf (n : AccessSize) (i : Nat)
  /-- A SEQBUF write at byte `i` (R42, R63). -/
  | writeBuf (n : AccessSize) (i : Nat) (v : Word)
  /-- A SEQCTRL write of a reserved CMD: 0, 13, 14 or 15 (R96). -/
  | reservedCmd (c : BitVec 4)
  /-- A SEQSTATUS write with DONE = 0: every bit of it is ignored (R39). -/
  | seqstatusIdle
deriving DecidableEq, Repr

/-- The direction of a host access (R10, R74). -/
inductive AccessDir
  | read | write | fetch
deriving DecidableEq, Repr, Inhabited

/-- The two host address ranges (R60). -/
inductive Space
  | regs | window
deriving DecidableEq, Repr, Inhabited

/-- A host access inside one of the QFE's two ranges: R103's access tuple with the address as an offset. -/
structure HostTuple where
  dir : AccessDir
  /-- The access width in bytes, any number. -/
  size : Nat
  space : Space
  off : Word
  /-- The value written (a read or a fetch ignores it). -/
  value : Word
deriving DecidableEq, Repr, Inhabited

/-- What an instruction is outside the machine: a host access or a frame on the flash bus. -/
inductive Wire
  | host (h : HostTuple)
  | bus (f : BusFrame)
deriving DecidableEq, Repr

end Sys2Proof
end

