-- ==== Sys2Proof/Machine/Bits.lean ====
section
/-! DEFINITION. Byte order, bit fields and code tables shared by the decoder and the machine (R63, R64, R86 to R92). -/

namespace Sys2Proof

/-- The byte count of an access size (R67). -/
def AccessSize.bytes : AccessSize → Nat
  | .b1 => 1
  | .b2 => 2
  | .b4 => 4

/-- The access size of a byte count; none for the counts that R67 refuses with `BadWidth`. -/
def AccessSize.ofBytes (n : Nat) : Option AccessSize :=
  if n = 1 then some .b1 else if n = 2 then some .b2 else if n = 4 then some .b4 else none

/-- The bits an access of this size carries. -/
def AccessSize.mask : AccessSize → Word
  | .b1 => 0x000000FF#32
  | .b2 => 0x0000FFFF#32
  | .b4 => 0xFFFFFFFF#32

/-- The low `n` bytes of a word, least significant first (R63, R64). -/
def leBytes (n : Nat) (v : Word) : List Byte :=
  (List.range n).map fun k => v.extractLsb' (8 * k) 8

/-- The word whose bytes, least significant first, are the list: `Σ b_k << 8k` (R63, R64). -/
def ofLeBytes : List Byte → Word
  | [] => 0#32
  | b :: bs => b.setWidth 32 ||| (ofLeBytes bs <<< 8)

/-- One bit as a word at position `i`. -/
def bitAt (b : Bool) (i : Nat) : Word :=
  if b then 1#32 <<< i else 0#32

/-- The width combination of a WIDTH code; 7 is reserved (R87). -/
def WidthCode.ofBits (c : BitVec 3) : Option WidthCode :=
  match c.toNat with
  | 0 => some .w111
  | 1 => some .w112
  | 2 => some .w114
  | 3 => some .w122
  | 4 => some .w144
  | 5 => some .w222
  | 6 => some .w444
  | _ => none

/-- The WIDTH code of a width combination (R87). -/
def WidthCode.toBits : WidthCode → BitVec 3
  | .w111 => 0
  | .w112 => 1
  | .w114 => 2
  | .w122 => 3
  | .w144 => 4
  | .w222 => 5
  | .w444 => 6

/-- The lanes of the command phase (R87). -/
def WidthCode.cmdLanes : WidthCode → Nat
  | .w111 => 1
  | .w112 => 1
  | .w114 => 1
  | .w122 => 1
  | .w144 => 1
  | .w222 => 2
  | .w444 => 4

/-- The lanes of the address and option phases (R87). -/
def WidthCode.addrLanes : WidthCode → Nat
  | .w111 => 1
  | .w112 => 1
  | .w114 => 1
  | .w122 => 2
  | .w144 => 4
  | .w222 => 2
  | .w444 => 4

/-- The lanes of the data phase (R87). -/
def WidthCode.dataLanes : WidthCode → Nat
  | .w111 => 1
  | .w112 => 2
  | .w114 => 4
  | .w122 => 2
  | .w144 => 4
  | .w222 => 2
  | .w444 => 4

/-- `optbits(code) = 2 ^ code` (R88). -/
def optBits (code : BitVec 2) : Nat := 2 ^ code.toNat

/-- The transfer kind of DATAEN and TFRTYPE (R90); none where the combination is invalid. -/
def Kind.ofBits (dataEn : Bool) (tfrType : BitVec 2) : Option Kind :=
  match dataEn, tfrType.toNat with
  | false, 0 => some .cmd
  | false, _ => none
  | true, 0 => some .regRead
  | true, 1 => some .memRead
  | true, 2 => some .regWrite
  | true, _ => some .memWrite

/-- The device-to-host kinds (R90). -/
def Kind.isRead : Kind → Bool
  | .cmd => false
  | .regRead => true
  | .regWrite => false
  | .memRead => true
  | .memWrite => false

/-- The host-to-device kinds (R90). -/
def Kind.isWrite : Kind → Bool
  | .cmd => false
  | .regRead => false
  | .regWrite => true
  | .memRead => false
  | .memWrite => true

/-- The memory kinds, whose address comes from the window (R112). -/
def Kind.isMem : Kind → Bool
  | .cmd => false
  | .regRead => false
  | .regWrite => false
  | .memRead => true
  | .memWrite => true

/-- The bits that the five descriptor rows of the opcode table fix. -/
def descRowMask : Word := 0xFFF0F898#32

/-- The fixed bits of the row of a kind (spec/opcode_table.json, rows BPE.CMD to BPE.MEMWRITE). -/
def Kind.rowBits : Kind → Word
  | .cmd => 0x00000010#32
  | .regRead => 0x00000090#32
  | .memRead => 0x00001090#32
  | .regWrite => 0x00002090#32
  | .memWrite => 0x00003090#32

/-- The row of the five that a descriptor value matches, if any. -/
def descRow (v : Word) : Option Kind :=
  if v &&& descRowMask = Kind.rowBits .cmd then some .cmd
  else if v &&& descRowMask = Kind.rowBits .regRead then some .regRead
  else if v &&& descRowMask = Kind.rowBits .memRead then some .memRead
  else if v &&& descRowMask = Kind.rowBits .regWrite then some .regWrite
  else if v &&& descRowMask = Kind.rowBits .memWrite then some .memWrite
  else none

/-- The fields of a descriptor value (R86). -/
def DescFields.ofWord (v : Word) : DescFields where
  width := v.extractLsb' 0 3
  addrEn := v.getLsbD 5
  optEn := v.getLsbD 6
  optLen := v.extractLsb' 8 2
  addrLen := v.getLsbD 10
  dummy := v.extractLsb' 16 4

/-- The descriptor value of a kind's row with these fields (R86). -/
def DescFields.toWord (k : Kind) (d : DescFields) : Word :=
  Kind.rowBits k ||| d.width.setWidth 32 ||| bitAt d.addrEn 5 ||| bitAt d.optEn 6 |||
    (d.optLen.setWidth 32 <<< 8) ||| bitAt d.addrLen 10 ||| (d.dummy.setWidth 32 <<< 16)

/-- The value of a word with the three interrupt bits 3, 10 and 16 (R27, R28). -/
def intBits (error instrEnd seqDone : Bool) : Word :=
  bitAt error 3 ||| bitAt instrEnd 10 ||| bitAt seqDone 16

end Sys2Proof
end

