-- ==== Sys2Proof/Machine/Bus.lean ====
section
/-! DEFINITION. A frame on the wires: its phases in bus order, the bytes of its address, the lanes and the cycles
(R65, R87, R102, R111, R121, R122). -/

namespace Sys2Proof

/-- The number of address bits sent (R89, R102). -/
def FrameShape.addrBitCount (f : FrameShape) : Nat :=
  if f.addrEn then (if f.addr32 then 32 else 24) else 0

/-- The number of option bits sent (R88, R102). -/
def FrameShape.optBitCount (f : FrameShape) : Nat := if f.optEn then optBits f.optLen else 0

/-- The address value sent: `A[addrbits-1:0]` (R89). -/
def FrameShape.sentAddr (f : FrameShape) : Nat :=
  if f.addr32 then f.addr.toNat else f.addr.toNat % 2 ^ 24

/-- The option value sent: the low `optbits` bits (R88). -/
def FrameShape.sentOpt (f : FrameShape) : Nat := f.opt.toNat % 2 ^ optBits f.optLen

/-- The clock cycles with chip select asserted, with `n` data bytes (R122). An option that does not fill whole cycles,
which only a frame from outside the QFE can have, counts its full cycles (notes/assumptions/29.md). -/
def FrameShape.cycles (f : FrameShape) (n : Nat) : Nat :=
  8 / f.width.cmdLanes + f.addrBitCount / f.width.addrLanes + f.optBitCount / f.width.addrLanes + f.dummy.toNat
    + 8 * n / f.width.dataLanes

/-- Who drives the lanes of a phase: the QFE, or the device in the data phase of a read kind (R112, R121). -/
inductive Driver
  | qfe | device
deriving DecidableEq, Repr

/-- Who drives the data phase of a kind (R112). -/
def Kind.dataDriver (k : Kind) : Driver := if k.isRead then .device else .qfe

/-- One phase of a frame: `bits` bits of `value` on `lanes` lanes, or idle cycles (R111). -/
inductive Phase
  | field (driver : Driver) (lanes bits value : Nat)
  | dummy (cycles : Nat)
deriving DecidableEq, Repr

/-- The phases of a frame in bus order, with its data bytes (R111). -/
def BusFrame.phases (f : BusFrame) (data : List Byte) : List Phase :=
  [Phase.field .qfe f.frame.width.cmdLanes 8 f.frame.instr.toNat]
    ++ (if f.frame.addrEn then
          [Phase.field .qfe f.frame.width.addrLanes f.frame.addrBitCount f.frame.sentAddr] else [])
    ++ (if f.frame.optEn then [Phase.field .qfe f.frame.width.addrLanes f.frame.optBitCount f.frame.sentOpt] else [])
    ++ (if 0 < f.frame.dummy.toNat then [Phase.dummy f.frame.dummy.toNat] else [])
    ++ (if f.frame.kind = .cmd then [] else data.map fun b =>
          Phase.field f.frame.kind.dataDriver f.frame.width.dataLanes 8 b.toNat)

/-- The bit that lane `i` carries in cycle `j` of a field of `b` bits on `l` lanes: bit `b - l * (j + 1) + i` (R121). -/
def laneBit (l b value i j : Nat) : Bool := value.testBit (b - l * (j + 1) + i)

/-- What the lanes `IO_{l-1} .. IO_0` carry in cycle `j` of a field, as a number (R121). -/
def laneGroup (l b value j : Nat) : Nat := (value >>> (b - l * (j + 1))) % 2 ^ l

/-- The lane groups of a whole field, first cycle first (R121). -/
def laneGroups (l b value : Nat) : List Nat := (List.range (b / l)).map fun j => laneGroup l b value j

/-- The cycles of one phase (R121, R122). -/
def Phase.cycles : Phase → Nat
  | .field _ l b _ => b / l
  | .dummy n => n

/-- The first pin of a field's lanes: single-lane data from the device arrive on `IO1`, every other field starts at `IO0`
(R121). -/
def firstPin (d : Driver) (l : Nat) : Nat := if l = 1 ∧ d = .device then 1 else 0

/-- Who drives pin `IO_i` in cycle `j` of a phase and with which bit; none where nobody does: another pin, a cycle past
the phase, the dummy phase (R121, R123). -/
def Phase.pin (p : Phase) (i j : Nat) : Option (Driver × Bool) :=
  match p with
  | .field d l b v =>
    if firstPin d l ≤ i ∧ i < firstPin d l + l ∧ j < b / l then some (d, laneBit l b v (i - firstPin d l) j) else none
  | .dummy _ => none

/-- The bytes of an address in bus order, most significant first (R65). -/
def addrBytes (addr32 : Bool) (a : Word) : List Byte :=
  if addr32 then [a.extractLsb' 24 8, a.extractLsb' 16 8, a.extractLsb' 8 8, a.extractLsb' 0 8]
  else [a.extractLsb' 16 8, a.extractLsb' 8 8, a.extractLsb' 0 8]

end Sys2Proof
end

