-- ==== Sys2Proof/Config.lean ====
section
/-! DEFINITION. The parameters of the model (R7, R200, R201, R202), as plain data that the state carries, and the free
values: opaque constants that nothing in Lean can evaluate, applied to the number of the draw. -/

namespace Sys2Proof

/-- The three identity bytes of a device or of a vendor profile (R7, R41). -/
structure JedecId where
  mfr : Byte
  typ : Byte
  capid : Byte
deriving DecidableEq, Repr, Inhabited

/-- The opcode and dummy parameters of R200 for one command set. A byte the variant does not use is inert. -/
structure OpTable where
  rsten : Byte
  rst : Byte
  rdid : Byte
  rdidQ : Byte
  dummyRdidQ : BitVec 4
  rdsr : Byte
  dummyRdsrQ : BitVec 4
  wren : Byte
  se : Byte
  pp : Byte
  read111 : Byte
  read112 : Byte
  read114 : Byte
  read122 : Byte
  read144 : Byte
  read444 : Byte
  /-- Variant B only. -/
  eqio : Byte
  /-- Variant A only. -/
  wrevcr : Byte
  /-- Variant A only. -/
  evcrQuad : Byte
  /-- Variant A only. -/
  wrvcr : Byte
  /-- Variant A only: the low nibble sent with the dummy count. -/
  vcrLow : BitVec 4
  /-- Variant A only. -/
  en4b : Byte
  /-- Variant A only. -/
  ex4b : Byte
deriving DecidableEq, Repr, Inhabited

/-- A set of option values that put the device into a continuous-read mode: those `v` sent with `2 ^ optLen` bits at
`width` for which `v` masked with `mask` is `value` (R202, DEV_SAFE_OPT). Any set is a list of such patterns. -/
structure OptPattern where
  width : WidthCode
  optLen : BitVec 2
  mask : Byte
  value : Byte
deriving DecidableEq, Repr, Inhabited

/-- The internal operation the device is busy with (R210). -/
inductive Machine.Pending
  /-- The erase of a sector, by its index. -/
  | erase (sector : Nat)
  /-- The programming of bytes at addresses. -/
  | program (pairs : List (Nat × Byte))
deriving DecidableEq, Repr

/-- What DEV_POWERON gives of a device (R202): every element of R210 but the array. -/
structure PowerOnDevice where
  /-- R210's `busy` is that there is an operation. -/
  pending : Option Machine.Pending
  wel : Bool
  qpi : Bool
  addr4 : Bool
  rsten : Bool
  dcfg : BitVec 4
deriving DecidableEq, Repr

/-- The parameters of the model: R7's table, R200's opcodes for the FCS and for the device, R202's device profile. -/
structure Params where
  /-- VARIANT (R3). -/
  variant : Variant
  /-- CAPACITY in bytes. -/
  capacity : Nat
  /-- SECTOR_SIZE in bytes. -/
  sectorSize : Nat
  /-- PAGE_SIZE in bytes. -/
  pageSize : Nat
  /-- QFE_BASE. -/
  qfeBase : Word
  /-- WIN_BASE. -/
  winBase : Word
  /-- WIN_SIZE in bytes. -/
  winSize : Nat
  /-- JEDEC_ID_A. -/
  jedecA : JedecId
  /-- JEDEC_ID_B. -/
  jedecB : JedecId
  /-- The FCS's opcode and dummy parameters (R200). -/
  ops : OpTable
  /-- The opcode and dummy parameters the device decodes (R213, R232). -/
  devOps : OpTable
  /-- SR_WIP_BIT (R201). -/
  wipBit : Fin 8
  /-- SR_WEL_BIT (R201). -/
  welBit : Fin 8
  /-- BUS_MAY_STALL (R7). -/
  busMayStall : Bool
  /-- DEV_SILENT_FAIL (R7). -/
  devSilentFail : Bool
  /-- DEV_MAY_HANG (R7). -/
  devMayHang : Bool
  /-- DEV_VARIANT (R202). -/
  devVariant : Variant
  /-- DEV_ID (R202). -/
  devId : JedecId
  /-- DEV_READ_CYCLES (R202) as a table: entry `16 * w + dcfg`, `w` the WIDTH code. -/
  readCycles : List Nat
  /-- The complement of DEV_SAFE_OPT (R202). -/
  unsafeOpts : List OptPattern
  /-- DEV_QUAD_EVCR (R202): the configuration bytes that select quad mode. -/
  quadEvcr : List Byte
  /-- DEV_POWERON (R202, R229). -/
  devPowerOn : PowerOnDevice
deriving DecidableEq, Repr

/-- Every `OP_READ(w)` (R181, R200); width 5 has none. -/
def OpTable.read (t : OpTable) : WidthCode → Option Byte
  | .w111 => some t.read111
  | .w112 => some t.read112
  | .w114 => some t.read114
  | .w122 => some t.read122
  | .w144 => some t.read144
  | .w222 => none
  | .w444 => some t.read444

/-- The opcode bytes of a table but OP_READ(6). -/
def OpTable.bytes (t : OpTable) : List Byte :=
  [t.rsten, t.rst, t.rdid, t.rdidQ, t.rdsr, t.wren, t.se, t.pp, t.read111, t.read112, t.read114, t.read122,
    t.read144, t.eqio, t.wrevcr, t.wrvcr, t.en4b, t.ex4b]

/-- R200's constraint: the opcodes are distinct, except that OP_READ(6) may equal OP_READ(0). It is asked here of the
bytes of both variants together (notes/assumptions/4.md). -/
def OpTable.wf (t : OpTable) : Prop :=
  t.bytes.Nodup ∧ (t.read444 = t.read111 ∨ t.read444 ∉ t.bytes)

/-- The constraints of R7 and D51 on the parameters: the flash is partitioned into whole sectors, and each sector into
whole pages. The upper bound of WIN_SIZE is no rule's but the model's: a window offset is a 32-bit value
(notes/assumptions/27.md). -/
structure Params.wf (p : Params) : Prop where
  capacity_pos : 0 < p.capacity
  capacity_le : p.capacity ≤ 2 ^ 32
  sector_pow : ∃ k, p.sectorSize = 2 ^ k
  sector_dvd : p.sectorSize ∣ p.capacity
  page_pow : ∃ k, p.pageSize = 2 ^ k
  page_dvd : p.pageSize ∣ p.sectorSize
  page_le : p.pageSize ≤ 256
  win_pow : ∃ k, p.winSize = 2 ^ k
  win_ge : 16 ≤ p.winSize
  win_le : p.winSize ≤ 2 ^ 32
  bits_ne : p.wipBit ≠ p.welBit
  ops_wf : OpTable.wf p.ops
  devOps_wf : OpTable.wf p.devOps
  cycles_len : p.readCycles.length = 112

/-! ## Free values

Each is an arbitrary function of the number of the draw (`State.draws`), so that no proof can use a value. -/

/-- A free bit: draw `n`, its `k`-th bit. -/
opaque Config.freeBit : Nat → Nat → Bool

/-- A free byte: draw `n`, its `k`-th byte. -/
opaque Config.freeByte : Nat → Nat → Byte

/-- A free number: draw `n`. -/
opaque Config.freeNat : Nat → Nat

/-- Free pairs of an address and a byte: draw `n`. -/
opaque Config.freePairs : Nat → List (Nat × Byte)

/-- The content of SEQBUF at power-on: one draw per byte (R42, R320, I1). -/
opaque Config.seqbufPowerOn : Nat → Byte

/-- The initial value of the millisecond clock (R305, I19). -/
opaque Config.clkInit : Word

/-- JEDEC_ID_A is OPEN and the spec offers no default for it (R7). -/
opaque Config.jedecIdA : JedecId

/-! ## Default parameters

The defaults, suggestions and test assumptions of R7, R200 to R202 and D51 (notes/assumptions/2.md): they fix
`State.reset` only; every statement is about a state with any parameters. -/

/-- R200's default opcodes; the two quad dummy counts differ between the variants. -/
def OpTable.default (dummyQ : BitVec 4) : OpTable where
  rsten := 0x66#8
  rst := 0x99#8
  rdid := 0x9F#8
  rdidQ := 0xAF#8
  dummyRdidQ := dummyQ
  rdsr := 0x05#8
  dummyRdsrQ := dummyQ
  wren := 0x06#8
  se := 0x20#8
  pp := 0x02#8
  read111 := 0x0B#8
  read112 := 0x3B#8
  read114 := 0x6B#8
  read122 := 0xBB#8
  read144 := 0xEB#8
  read444 := 0x0B#8
  eqio := 0x38#8
  wrevcr := 0x61#8
  evcrQuad := 0x7F#8
  wrvcr := 0x81#8
  vcrLow := 0xB#4
  en4b := 0xB7#8
  ex4b := 0xE9#8

/-- R200's column for variant A. -/
def OpTable.defaultA : OpTable := OpTable.default 0#4

/-- R200's column for variant B. -/
def OpTable.defaultB : OpTable := OpTable.default 2#4

/-- R202's default DEV_READ_CYCLES for one width code. -/
def defaultReadCycles (v : Variant) (w : Nat) (dcfg : Nat) : Nat :=
  match v with
  | .B => if w = 3 then 4 else if w = 4 ∨ w = 6 then 6 else 8
  | .A => if dcfg ≠ 0 ∧ dcfg ≠ 15 then dcfg else if w = 4 ∨ w = 6 then 10 else 8

/-- R202's default DEV_READ_CYCLES as a table. -/
def defaultCycleTable (v : Variant) : List Nat :=
  (List.range 112).map fun i => defaultReadCycles v (i / 16) (i % 16)

/-- R202's default DEV_SAFE_OPT: on variant B an 8-bit option with high nibble 0xA is not safe. -/
def defaultUnsafeOpts (v : Variant) : List OptPattern :=
  match v with
  | .A => []
  | .B => [WidthCode.w111, .w112, .w114, .w122, .w144, .w222, .w444].map fun w =>
      { width := w, optLen := 3#2, mask := 0xF0#8, value := 0xA0#8 }

/-- The identity BF 26 43 that R7 suggests for variant B. -/
def defaultJedecB : JedecId := { mfr := 0xBF#8, typ := 0x26#8, capid := 0x43#8 }

/-- R229's DEV_POWERON. -/
def defaultPowerOn : PowerOnDevice where
  pending := none
  wel := false
  qpi := false
  addr4 := false
  rsten := false
  dcfg := 15#4

/-- The parameters that `State.reset` carries, for a build of variant `v` on a matching device. -/
def Params.default (v : Variant) : Params where
  variant := v
  capacity := 0x00800000
  sectorSize := 4096
  pageSize := 256
  qfeBase := 0x42003400#32
  winBase := 0x04000000#32
  winSize := 0x01000000
  jedecA := Config.jedecIdA
  jedecB := defaultJedecB
  ops := match v with
    | .A => OpTable.defaultA
    | .B => OpTable.defaultB
  devOps := match v with
    | .A => OpTable.defaultA
    | .B => OpTable.defaultB
  wipBit := 0
  welBit := 1
  busMayStall := true
  devSilentFail := true
  devMayHang := true
  devVariant := v
  devId := match v with
    | .A => Config.jedecIdA
    | .B => defaultJedecB
  readCycles := defaultCycleTable v
  unsafeOpts := defaultUnsafeOpts v
  quadEvcr := [0x7F#8]
  devPowerOn := defaultPowerOn

end Sys2Proof
end

