-- ==== Sys2Proof/WellFormed.lean ====
section
/-! DEFINITION. Well-formed instructions: the terms that an encoding exists for (spec/30_encoding.md). -/

namespace Sys2Proof

/-- A bus frame's data agree with its kind: only a write kind sends bytes, only a read kind reads them (R112). Its option
may leave a cycle of the address lanes part filled: R92 rules that out of descriptors only (the model's choice,
notes/assumptions/29.md). -/
def BusBody.wf (b : BusBody) : Bool :=
  (b.shape.kind.isWrite || b.out.isEmpty) && (b.shape.kind.isRead || b.nIn == 0)

/-- A BPE.FRAME term is a descriptor that is none of the five kinds' rows (R86, R90). -/
def frameValueWf (v : Word) : Bool := (descRow v).isNone

/-- The value of a window store has no bits beyond the store's width (R128). -/
def storeValueWf (n : AccessSize) (v : Word) : Bool := v &&& n.mask == v

/-- The well-formedness of an instruction. -/
def Instr.wf : Instr → Bool
  | .bpeCmd _ => true
  | .bpeRegRead _ => true
  | .bpeMemRead _ => true
  | .bpeRegWrite _ => true
  | .bpeMemWrite _ => true
  | .bpeFrame v => frameValueWf v
  | .bpeSync => true
  | .bpeLastXfer _ => true
  | .bpeEnable _ => true
  | .bpeSwrst => true
  | .bpeClrFlag _ _ _ => true
  | .bpeIntenSet _ _ _ => true
  | .bpeIntenClr _ _ _ => true
  | .winRead _ _ => true
  | .winWrite n _ v => storeValueWf n v
  | .seqReset => true
  | .seqReadJedecId => true
  | .seqReadStatus => true
  | .seqWriteEnable => true
  | .seqEnableQuadIo => true
  | .seqSectorErase => true
  | .seqPageProgram => true
  | .seqHighSpeedRead => true
  | .seqWaitReady => true
  | .seqSetDummyCycles => true
  | .seqEnter4Byte => true
  | .seqExit4Byte => true
  | .seqClrDone => true
  | .crcInit _ => true
  | .crcSnoop _ => true
  | .crcFeed8 _ => true
  | .crcFeed16 _ => true
  | .crcFeed32 _ => true
  | .crcLoad _ => true
  | .crcExpect _ => true
  | .crcResult _ => true
  | .devWren b => b.wf
  | .devRdsr b => b.wf
  | .devRdid b => b.wf
  | .devRdidQ b => b.wf
  | .devSe b => b.wf
  | .devPp b => b.wf
  | .devRead111 b => b.wf
  | .devRead112 b => b.wf
  | .devRead114 b => b.wf
  | .devRead122 b => b.wf
  | .devRead144 b => b.wf
  | .devRsten b => b.wf
  | .devRst b => b.wf
  | .devEqio b => b.wf
  | .devWrevcr b => b.wf
  | .devWrvcr b => b.wf
  | .devEn4b b => b.wf
  | .devEx4b b => b.wf

end Sys2Proof
end

