-- ==== Sys2Proof/Decode.lean ====
section
/-! DEFINITION. The decoder, total on every host access and every bus frame, and after it the encoder
(spec/30_encoding.md, spec/10_state.md R22, R23, spec/20_memory.md R67, spec/opcode_table.json). -/

namespace Sys2Proof

/-- What the decoder reads from a wire form. -/
inductive Decoded
  /-- A row of the opcode table. -/
  | instr (i : Instr)
  /-- A host access that no row of the table covers. -/
  | plain (p : PlainOp)
  /-- A host access that is refused whatever the state is (R291). -/
  | refused (r : FaultReason)
  /-- A bus frame whose opcode no row has (R231). -/
  | unknownFrame (f : BusFrame)
deriving DecidableEq, Repr

/-! ## The three kinds of word (R85) -/

/-- The instruction of a descriptor written to INSTRFRAME (R86, R90). -/
def decodeDescriptor (v : Word) : Instr :=
  match descRow v with
  | some .cmd => .bpeCmd (DescFields.ofWord v)
  | some .regRead => .bpeRegRead (DescFields.ofWord v)
  | some .memRead => .bpeMemRead (DescFields.ofWord v)
  | some .regWrite => .bpeRegWrite (DescFields.ofWord v)
  | some .memWrite => .bpeMemWrite (DescFields.ofWord v)
  | none => .bpeFrame v

/-- The instruction of a CTRLA write (R24): SWRST first, then LASTXFER. -/
def decodeCtrla (v : Word) : Instr :=
  if v.getLsbD 0 then .bpeSwrst
  else if v.getLsbD 24 then .bpeLastXfer (v.getLsbD 1)
  else .bpeEnable (v.getLsbD 1)

/-- The command of a SEQCTRL write by its CMD field (R95, R96). -/
def decodeSeqctrl (v : Word) : Decoded :=
  match (v.extractLsb' 0 4).toNat with
  | 1 => .instr .seqReset
  | 2 => .instr .seqReadJedecId
  | 3 => .instr .seqReadStatus
  | 4 => .instr .seqWriteEnable
  | 5 => .instr .seqEnableQuadIo
  | 6 => .instr .seqSectorErase
  | 7 => .instr .seqPageProgram
  | 8 => .instr .seqHighSpeedRead
  | 9 => .instr .seqWaitReady
  | 10 => .instr .seqSetDummyCycles
  | 11 => .instr .seqEnter4Byte
  | 12 => .instr .seqExit4Byte
  | _ => .plain (.reservedCmd (v.extractLsb' 0 4))

/-- A 32-bit read at a register offset (R22). -/
def decodeRegRead (off : Nat) : Decoded :=
  match off with
  | 0x000 => .plain (.readReg .ctrla)
  | 0x004 => .plain (.readReg .ctrlb)
  | 0x008 => .plain (.readReg .baud)
  | 0x014 => .plain (.readReg .intenclr)
  | 0x018 => .plain (.readReg .intenset)
  | 0x01C => .plain (.readReg .intflag)
  | 0x020 => .plain (.readReg .status)
  | 0x030 => .plain (.readReg .instraddr)
  | 0x034 => .plain (.readReg .instrctrl)
  | 0x038 => .instr .bpeSync
  | 0x080 => .plain (.readReg .seqctrl)
  | 0x084 => .plain (.readReg .seqaddr)
  | 0x088 => .plain (.readReg .seqlen)
  | 0x08C => .plain (.readReg .seqparam)
  | 0x090 => .plain (.readReg .seqbudget)
  | 0x094 => .plain (.readReg .seqstatus)
  | 0x098 => .plain (.readReg .seqsr)
  | 0x09C => .plain (.readReg .seqid)
  | 0x0C0 => .plain (.readReg .crcctrl)
  | 0x0C8 => .plain (.readReg .crcstate)
  | 0x0CC => .instr (.crcResult .crcresult)
  | 0x0D0 => .plain (.readReg .crcexpect)
  | 0x0D4 => .instr (.crcResult .crcstatus)
  | _ => .refused .reservedOffset

/-- A 32-bit write at a register offset (R22, R23). -/
def decodeRegWrite (off : Nat) (v : Word) : Decoded :=
  match off with
  | 0x000 => .instr (decodeCtrla v)
  | 0x004 => .plain (.writeReg .ctrlb v)
  | 0x008 => .plain (.writeReg .baud v)
  | 0x014 => .instr (.bpeIntenClr (v.getLsbD 3) (v.getLsbD 10) (v.getLsbD 16))
  | 0x018 => .instr (.bpeIntenSet (v.getLsbD 3) (v.getLsbD 10) (v.getLsbD 16))
  | 0x01C => .instr (.bpeClrFlag (v.getLsbD 3) (v.getLsbD 10) (v.getLsbD 16))
  | 0x020 => .refused .readOnlyWrite
  | 0x030 => .plain (.writeReg .instraddr v)
  | 0x034 => .plain (.writeReg .instrctrl v)
  | 0x038 => .instr (decodeDescriptor v)
  | 0x080 => decodeSeqctrl v
  | 0x084 => .plain (.writeReg .seqaddr v)
  | 0x088 => .plain (.writeReg .seqlen v)
  | 0x08C => .plain (.writeReg .seqparam v)
  | 0x090 => .plain (.writeReg .seqbudget v)
  | 0x094 => if v.getLsbD 1 then .instr .seqClrDone else .plain .seqstatusIdle
  | 0x098 => .refused .readOnlyWrite
  | 0x09C => .refused .readOnlyWrite
  | 0x0C0 => if v.getLsbD 0 then .instr (.crcInit (v.getLsbD 1)) else .instr (.crcSnoop (v.getLsbD 1))
  | 0x0C8 => .instr (.crcLoad v)
  | 0x0CC => .refused .readOnlyWrite
  | 0x0D0 => .instr (.crcExpect v)
  | 0x0D4 => .refused .readOnlyWrite
  | _ => .refused .reservedOffset

/-- A write of 1, 2 or 4 bytes to CRCDATA (R99, R241). -/
def decodeCrcData (n : AccessSize) (v : Word) : Instr :=
  match n with
  | .b1 => .crcFeed8 (v.setWidth 8)
  | .b2 => .crcFeed16 (v.setWidth 16)
  | .b4 => .crcFeed32 v

/-- A host access to the register block (R22, R67); BadWidth comes before the other reasons (R293). A fetch from the
register block is taken as a read (notes/assumptions/8.md). -/
def decodeRegs (h : HostTuple) : Decoded :=
  let off := h.off.toNat
  let isWrite := h.dir == .write
  if 0x100 ≤ off then
    match AccessSize.ofBytes h.size with
    | none => .refused .badWidth
    | some n =>
      if off % n.bytes = 0 ∧ off + n.bytes ≤ 0x200 then
        if isWrite then .plain (.writeBuf n (off - 0x100) (h.value &&& n.mask)) else .plain (.readBuf n (off - 0x100))
      else .refused .misaligned
  else if 0x0C4 ≤ off ∧ off ≤ 0x0C7 then
    match AccessSize.ofBytes h.size with
    | none => .refused .badWidth
    | some n =>
      if off = 0x0C4 then
        if isWrite then .instr (decodeCrcData n h.value) else .plain (.readReg .crcdata)
      else .refused .misaligned
  else if h.size = 4 then
    if isWrite then decodeRegWrite off h.value else decodeRegRead off
  else .refused .badWidth

/-- A host access to the data window (R60, R67, R74). Its alignment is checked by the access itself (R293). -/
def decodeWindow (h : HostTuple) : Decoded :=
  if h.dir = .fetch then .refused .fetchFromWindow
  else
    match AccessSize.ofBytes h.size with
    | none => .refused .badWidth
    | some n => if h.dir = .write then .instr (.winWrite n h.off (h.value &&& n.mask)) else .instr (.winRead n h.off)

/-- The decoder of a host access. -/
def decodeHost (h : HostTuple) : Decoded :=
  match h.space with
  | .regs => decodeRegs h
  | .window => decodeWindow h

/-- The opcode that DEV.READ_111 stands for in a frame of this width: OP_READ(6) in 4-4-4, OP_READ(0) otherwise. -/
def OpTable.read111For (t : OpTable) (w : WidthCode) : Byte :=
  if w = .w444 then t.read444 else t.read111

/-- The part of a bus frame that a device row leaves open. -/
def BusFrame.body (f : BusFrame) : BusBody :=
  { shape := f.frame.toFrameShape, out := f.out, nIn := f.nIn }

/-- The bus frame of an opcode and a body. -/
def BusBody.withOpcode (b : BusBody) (op : Byte) : BusFrame :=
  { frame := { toFrameShape := b.shape, instr := op }, out := b.out, nIn := b.nIn }

/-- The device row of a bus frame by its opcode byte (R100, R213); none where no row has the byte (R231). -/
def decodeBus (t : OpTable) (f : BusFrame) : Option Instr :=
  let op := f.frame.instr
  let b := f.body
  if op = t.wren then some (.devWren b)
  else if op = t.rdsr then some (.devRdsr b)
  else if op = t.rdid then some (.devRdid b)
  else if op = t.rdidQ then some (.devRdidQ b)
  else if op = t.se then some (.devSe b)
  else if op = t.pp then some (.devPp b)
  else if op = t.read111For b.shape.width then some (.devRead111 b)
  else if op = t.read112 then some (.devRead112 b)
  else if op = t.read114 then some (.devRead114 b)
  else if op = t.read122 then some (.devRead122 b)
  else if op = t.read144 then some (.devRead144 b)
  else if op = t.rsten then some (.devRsten b)
  else if op = t.rst then some (.devRst b)
  else if op = t.eqio then some (.devEqio b)
  else if op = t.wrevcr then some (.devWrevcr b)
  else if op = t.wrvcr then some (.devWrvcr b)
  else if op = t.en4b then some (.devEn4b b)
  else if op = t.ex4b then some (.devEx4b b)
  else none

/-- The decoder: total on every wire form, with the opcodes of the flash device as parameters. -/
def decode (t : OpTable) : Wire → Decoded
  | .host h => decodeHost h
  | .bus f =>
    match decodeBus t f with
    | some i => .instr i
    | none => .unknownFrame f

/-- The instruction of a wire form, if it is a row of the opcode table. -/
def decodeInstr (t : OpTable) (w : Wire) : Option Instr :=
  match decode t w with
  | .instr i => some i
  | .plain _ => none
  | .refused _ => none
  | .unknownFrame _ => none

/-! ## The encoder -/

/-- A 32-bit register write. -/
def regWrite (off v : Word) : Wire :=
  .host { dir := .write, size := 4, space := .regs, off := off, value := v }

/-- A 32-bit register read. -/
def regRead (off : Word) : Wire :=
  .host { dir := .read, size := 4, space := .regs, off := off, value := 0#32 }

/-- A write of `n` bytes to CRCDATA. -/
def crcDataWrite (n : AccessSize) (v : Word) : Wire :=
  .host { dir := .write, size := n.bytes, space := .regs, off := 0x0C4#32, value := v }

/-- The wire form of an instruction, written from the encodings of spec/30_encoding.md and the table's "format". -/
def encode (t : OpTable) : Instr → Wire
  | .bpeCmd d => regWrite 0x038#32 (DescFields.toWord .cmd d)
  | .bpeRegRead d => regWrite 0x038#32 (DescFields.toWord .regRead d)
  | .bpeMemRead d => regWrite 0x038#32 (DescFields.toWord .memRead d)
  | .bpeRegWrite d => regWrite 0x038#32 (DescFields.toWord .regWrite d)
  | .bpeMemWrite d => regWrite 0x038#32 (DescFields.toWord .memWrite d)
  | .bpeFrame v => regWrite 0x038#32 v
  | .bpeSync => regRead 0x038#32
  | .bpeLastXfer en => regWrite 0x000#32 (0x01000000#32 ||| bitAt en 1)
  | .bpeEnable en => regWrite 0x000#32 (bitAt en 1)
  | .bpeSwrst => regWrite 0x000#32 0x00000001#32
  | .bpeClrFlag e i s => regWrite 0x01C#32 (intBits e i s)
  | .bpeIntenSet e i s => regWrite 0x018#32 (intBits e i s)
  | .bpeIntenClr e i s => regWrite 0x014#32 (intBits e i s)
  | .winRead n o => .host { dir := .read, size := n.bytes, space := .window, off := o, value := 0#32 }
  | .winWrite n o v => .host { dir := .write, size := n.bytes, space := .window, off := o, value := v }
  | .seqReset => regWrite 0x080#32 1#32
  | .seqReadJedecId => regWrite 0x080#32 2#32
  | .seqReadStatus => regWrite 0x080#32 3#32
  | .seqWriteEnable => regWrite 0x080#32 4#32
  | .seqEnableQuadIo => regWrite 0x080#32 5#32
  | .seqSectorErase => regWrite 0x080#32 6#32
  | .seqPageProgram => regWrite 0x080#32 7#32
  | .seqHighSpeedRead => regWrite 0x080#32 8#32
  | .seqWaitReady => regWrite 0x080#32 9#32
  | .seqSetDummyCycles => regWrite 0x080#32 10#32
  | .seqEnter4Byte => regWrite 0x080#32 11#32
  | .seqExit4Byte => regWrite 0x080#32 12#32
  | .seqClrDone => regWrite 0x094#32 0x00000002#32
  | .crcInit s => regWrite 0x0C0#32 (0x00000001#32 ||| bitAt s 1)
  | .crcSnoop s => regWrite 0x0C0#32 (bitAt s 1)
  | .crcFeed8 v => crcDataWrite .b1 (v.setWidth 32)
  | .crcFeed16 v => crcDataWrite .b2 (v.setWidth 32)
  | .crcFeed32 v => crcDataWrite .b4 v
  | .crcLoad v => regWrite 0x0C8#32 v
  | .crcExpect v => regWrite 0x0D0#32 v
  | .crcResult .crcresult => regRead 0x0CC#32
  | .crcResult .crcstatus => regRead 0x0D4#32
  | .devWren b => .bus (b.withOpcode t.wren)
  | .devRdsr b => .bus (b.withOpcode t.rdsr)
  | .devRdid b => .bus (b.withOpcode t.rdid)
  | .devRdidQ b => .bus (b.withOpcode t.rdidQ)
  | .devSe b => .bus (b.withOpcode t.se)
  | .devPp b => .bus (b.withOpcode t.pp)
  | .devRead111 b => .bus (b.withOpcode (t.read111For b.shape.width))
  | .devRead112 b => .bus (b.withOpcode t.read112)
  | .devRead114 b => .bus (b.withOpcode t.read114)
  | .devRead122 b => .bus (b.withOpcode t.read122)
  | .devRead144 b => .bus (b.withOpcode t.read144)
  | .devRsten b => .bus (b.withOpcode t.rsten)
  | .devRst b => .bus (b.withOpcode t.rst)
  | .devEqio b => .bus (b.withOpcode t.eqio)
  | .devWrevcr b => .bus (b.withOpcode t.wrevcr)
  | .devWrvcr b => .bus (b.withOpcode t.wrvcr)
  | .devEn4b b => .bus (b.withOpcode t.en4b)
  | .devEx4b b => .bus (b.withOpcode t.ex4b)

/-! ## The host's opcode-table word

The bits of a table row are those of the value written or of the opcode byte; the register or the bus they go to is in
the row's "format". `tableWire` picks it from the row's width and value; where rows of different registers share a
value, one of them is picked (notes/assumptions/6.md). -/

/-- The all-zero operands of a device row. -/
def BusBody.zero : BusBody where
  shape := { width := .w111, addrEn := false, addr32 := false, addr := 0#32, optEn := false, optLen := 0#2,
             opt := 0#8, dummy := 0#4, kind := .cmd }
  out := []
  nIn := 0

/-- The wire form of an 8-bit table value: a SEQCTRL command, else a flash opcode, else a CRCDATA byte. -/
def tableWire8 (w : Nat) : Wire :=
  if 1 ≤ w ∧ w ≤ 12 then regWrite 0x080#32 (BitVec.ofNat 32 w)
  else if (BitVec.ofNat 8 w) ∈ OpTable.defaultB.bytes then .bus (BusBody.zero.withOpcode (BitVec.ofNat 8 w))
  else crcDataWrite .b1 (BitVec.ofNat 32 w)

/-- The wire form of a 32-bit table value: a CTRLA write of ENABLE and LASTXFER alone, else an INSTRFRAME write. -/
def tableWire32 (w : Nat) : Wire :=
  let v := BitVec.ofNat 32 w
  if v &&& 0xFEFFFFFD#32 = 0#32 then regWrite 0x000#32 v else regWrite 0x038#32 v

/-- The wire form of a table row's `nbits` bits `w`. -/
def tableWire (nbits w : Nat) : Option Wire :=
  match nbits with
  | 0 => some (regRead 0x038#32)
  | 8 => some (tableWire8 w)
  | 16 => some (crcDataWrite .b2 (BitVec.ofNat 32 w))
  | 24 => some (regWrite 0x01C#32 (BitVec.ofNat 32 w))
  | 32 => some (tableWire32 w)
  | _ => none

/-- The instruction the decoder reads from a table row's bits. -/
def decodeTableWord (nbits w : Nat) : Option Instr :=
  match tableWire nbits w with
  | some x => decodeInstr OpTable.defaultB x
  | none => none

end Sys2Proof
end

