-- ==== Sys2Proof/Machine/State.lean ====
section
/-! DEFINITION. The state of the machine as plain data, and the state after power-on reset
(spec/10_state.md, spec/42_flash_commands.md R210, spec/60_exceptions.md R305, spec/70_reset_and_hazards.md R320). -/

namespace Sys2Proof.Machine

/-- The BPE frame machine's states (R29, R33): IDLE, ARMED, OPEN, RUNNING. -/
inductive FrameState
  | idle | armed | opened | running
deriving DecidableEq, Repr, Inhabited

/-- The sequencer's steps, codes 0 to 6 (R152). -/
inductive SeqStep
  | idle | check | wren | pollWel | main | main2 | pollWip
deriving DecidableEq, Repr, Inhabited

/-- The sequencer's commands, codes 1 to 12 (R95). -/
inductive Cmd
  | reset | readJedecId | readStatus | writeEnable | enableQuadIo | sectorErase | pageProgram | highSpeedRead
  | waitReady | setDummyCycles | enter4Byte | exit4Byte
deriving DecidableEq, Repr, Inhabited

/-- The sequencer's error codes 0 to 5 (R294). -/
inductive ErrCode
  | none | busTimeout | deviceNotReady | unsupported | capacityExceeded | invalidParameter
deriving DecidableEq, Repr, Inhabited

/-- The registers and hidden state of the bus-protocol engine (R24 to R33). -/
structure Bpe where
  /-- CTRLA.ENABLE (R24); the other bits of CTRLA are strobes. -/
  enable : Bool
  /-- CTRLB: bit 0 MODE, the rest storage (R25). -/
  ctrlb : Word
  /-- BAUD: storage (R26). -/
  baud : Word
  /-- INTEN (R27). -/
  inten : Word
  /-- INTFLAG (R28). -/
  intflag : Word
  /-- INSTRADDR (R30). -/
  instraddr : Word
  /-- INSTRCTRL: INSTR[7:0], OPTCODE[23:16] (R31). -/
  instrctrl : Word
  /-- INSTRFRAME, the whole value written (R32). -/
  instrframe : Word
  /-- The frame machine (R33). -/
  fstate : FrameState
  /-- The frame in RUNNING will never complete (R33). -/
  stalled : Bool
  /-- Set by a write of INSTRFRAME, cleared by its read (R33). -/
  syncPending : Bool
  /-- The frame latched at the INSTRFRAME write, its address not yet chosen (R33). -/
  fdesc : Option Frame
  /-- The address latched when the frame opens (R33). -/
  faddr : Word
  /-- The window offset the next data access must use (R33). -/
  fnext : Word
  /-- The bytes written so far in a write-kind frame (R33). -/
  fwdata : List Byte
  /-- The count of bytes read so far in a read-kind frame (R33). -/
  fread : Nat
deriving DecidableEq, Repr

/-- The registers and hidden state of the flash command sequencer (R34 to R46). -/
structure Fcs where
  /-- SEQCTRL.CMD (R34). -/
  seqctrl : BitVec 4
  /-- SEQADDR (R35). -/
  seqaddr : Word
  /-- SEQLEN.LEN (R36). -/
  seqlen : BitVec 9
  /-- SEQPARAM (R37). -/
  seqparam : Word
  /-- SEQBUDGET: VALUE[23:0], MODE[31] (R38). -/
  seqbudget : Word
  /-- SEQSTATUS.BUSY (R39). -/
  busy : Bool
  /-- SEQSTATUS.DONE (R39). -/
  doneFlag : Bool
  /-- SEQSTATUS.ERR (R39). -/
  err : ErrCode
  /-- SEQSTATUS.FAILSTEP (R39). -/
  failstep : SeqStep
  /-- SEQSTATUS.STATE, the hidden `step` (R39, R46). -/
  step : SeqStep
  /-- SEQSTATUS.QUADACT, Device Mode (R43). -/
  quadact : Bool
  /-- SEQSTATUS.ADDR4 (R44). -/
  addr4 : Bool
  /-- SEQSR.SR (R40). -/
  seqsr : Byte
  /-- SEQID (R41). -/
  seqid : Word
  /-- The hidden `cmd`, none for 0 (R46). -/
  cmd : Option Cmd
  /-- The hidden `polls` (R46). -/
  polls : Word
  /-- The hidden `t0` (R46). -/
  t0 : Word
  /-- The hidden `rbytes` (R46). -/
  rbytes : List Byte
deriving DecidableEq, Repr

/-- The registers of the CRC-32 unit (R47 to R52). -/
structure Crc where
  /-- CRCCTRL.SNOOP (R47). -/
  snoop : Bool
  /-- CRCSTATE (R49). -/
  crcstate : Word
  /-- CRCEXPECT (R51). -/
  crcexpect : Word
deriving DecidableEq, Repr

/-- The flash array: pairs of an address and a byte, addresses strictly rising, none with the erased value 0xFF, which
is what an unlisted address reads as (R62). -/
abbrev FlashMem := List Host.Cell

/-- How the device has decided, at the begin of a frame, to treat it (R211, R212). -/
inductive DevPlan
  /-- No effect; arbitrary bytes (R212 busy gate, R231). -/
  | ignored
  /-- Command lanes differ from the device's: Havoc, but a device in single mode ignores fewer than 8 cycles (R212). -/
  | misread (single : Bool)
  /-- Havoc at the end of the frame (R212 shape, R216 unsafe option). -/
  | havocAtEnd
  /-- A read with arbitrary bytes and no effect (R212 shape, R216 dummy count). -/
  | badRead
  /-- The status read (R214). -/
  | status
  /-- The identity read (R215). -/
  | identity
  /-- The array read from an address (R216). -/
  | array (a : Nat)
  /-- OP_WREN (R213). -/
  | wren
  /-- OP_SE at an address (R217). -/
  | erase (a : Nat)
  /-- OP_PP at an address (R218). -/
  | program (a : Nat)
  /-- OP_RSTEN (R211). -/
  | rsten
  /-- OP_RST (R222). -/
  | rst
  /-- OP_EQIO (R224). -/
  | eqio
  /-- OP_WREVCR (R225). -/
  | wrevcr
  /-- OP_WRVCR (R226). -/
  | wrvcr
  /-- OP_EN4B (R227). -/
  | en4b
  /-- OP_EX4B (R227). -/
  | ex4b
deriving DecidableEq, Repr

/-- The frame that chip select is asserted for, as the device holds it (R211). -/
structure InFlight where
  frame : Frame
  plan : DevPlan
  /-- How many bytes the device has supplied. -/
  sent : Nat
  /-- The bytes the device has taken. -/
  recv : List Byte
deriving DecidableEq, Repr

/-- The state of the flash device (R210). -/
structure Dev where
  arr : FlashMem
  /-- The internal operation; R210's `busy` is that there is one. -/
  pending : Option Pending
  /-- The write-enable latch. -/
  wel : Bool
  /-- The device's own command width: quad. -/
  qpi : Bool
  /-- The device's address width: 32 bits. -/
  addr4 : Bool
  /-- A reset-enable frame came immediately before. -/
  rsten : Bool
  /-- The variant-A dummy configuration. -/
  dcfg : BitVec 4
  /-- The frame on the bus, from its begin to its end. -/
  cur : Option InFlight
deriving DecidableEq, Repr

/-- One host access with its absolute address (R10, R103). -/
structure HostAccess where
  dir : AccessDir
  /-- The width in bytes, any number. -/
  size : Nat
  addr : Word
  /-- The value of a write. -/
  value : Word
deriving DecidableEq, Repr

/-- What the outside world does to the machine, one at a time, oldest first (R75). -/
inductive Input
  /-- A host access. -/
  | access (a : HostAccess)
  /-- A frame put on the flash bus from outside the QFE (spec/95_test_vectors.md 2.6). -/
  | frame (f : BusFrame)
  /-- A power-on reset, with or without a power cycle of the device (R320, R229, I30). -/
  | powerOn (withDevice : Bool)
deriving DecidableEq, Repr

/-- The agents that step (R20, R305, D1). -/
inductive Agent
  | host | bpe | fcs | device | clock
deriving DecidableEq, Repr, Inhabited

/-- The answer to the last input. -/
inductive Response
  /-- Nothing was asked yet. -/
  | none
  /-- A write was accepted. -/
  | accepted
  /-- A read was answered. -/
  | data (v : Word)
  /-- The access was refused with a bus error (R290). -/
  | busError (r : FaultReason)
  /-- The bytes an outside frame read from the device. -/
  | bytes (l : List Byte)
  /-- An outside frame found chip select asserted and was not sent (R124). -/
  | turnedAway
deriving DecidableEq, Repr

/-- The state of the machine (R20), with its environment and the model's own bookkeeping. -/
structure State where
  /-- The parameters of the build and of the device (R7, R200 to R202); no step changes them. -/
  cfg : Params
  /-- The bus-protocol engine. -/
  bpe : Bpe
  /-- The flash command sequencer and Device Mode. -/
  fcs : Fcs
  /-- The CRC-32 unit. -/
  crc : Crc
  /-- SEQBUF, 256 bytes (R42). -/
  seqbuf : Vector Byte 256
  /-- The flash device, the environment (R210). -/
  dev : Dev
  /-- The external millisecond clock (R305). -/
  clk : Word
  /-- The fault record: a set, no reason twice (R54). -/
  faults : List FaultReason
  /-- The answer to the last input (the model's own). -/
  resp : Response
  /-- The inputs still to come, oldest first (the model's own). -/
  inputs : List Input
  /-- Which agents move next, first one first; when empty the choice is free (the model's own). -/
  sched : List Agent
  /-- The number of free draws made (the model's own). -/
  draws : Nat
deriving DecidableEq, Repr

/-- The reasons for which a step ends the run. -/
inductive Fault
  /-- The step that takes a host access raises it when the address lies in neither of the QFE's two ranges (R60): no
  such address exists for this hardware. Safe: the run stops. -/
  | unmappedAddress
deriving DecidableEq, Repr

/-- The reasons for which an instruction has no meaning. -/
inductive Refusal
  /-- `exec` raises it for an instruction without a meaning yet; no arm does. Safe: the run stops. -/
  | notModelled (mnemonic : String)
deriving DecidableEq, Repr

/-- The BPE at power-on (R320). -/
def Bpe.powerOn : Bpe where
  enable := false
  ctrlb := 0#32
  baud := 0#32
  inten := 0#32
  intflag := 0#32
  instraddr := 0#32
  instrctrl := 0#32
  instrframe := 0#32
  fstate := .idle
  stalled := false
  syncPending := false
  fdesc := none
  faddr := 0#32
  fnext := 0#32
  fwdata := []
  fread := 0

/-- The FCS at power-on (R320). -/
def Fcs.powerOn : Fcs where
  seqctrl := 0#4
  seqaddr := 0#32
  seqlen := 0#9
  seqparam := 0#32
  seqbudget := 0#32
  busy := false
  doneFlag := false
  err := .none
  failstep := .idle
  step := .idle
  quadact := false
  addr4 := false
  seqsr := 0#8
  seqid := 0#32
  cmd := none
  polls := 0#32
  t0 := 0#32
  rbytes := []

/-- The CRC unit at power-on (R252, R320). -/
def Crc.powerOn : Crc where
  snoop := false
  crcstate := 0xFFFFFFFF#32
  crcexpect := 0#32

/-- The device at power-on with the array `arr`: the profile's DEV_POWERON (R202, R229; notes/assumptions/32.md), but
that `addr4` is always 0 on variant B (R210). -/
def Dev.powerOn (p : Params) (arr : FlashMem) : Dev where
  arr := arr
  pending := p.devPowerOn.pending
  wel := p.devPowerOn.wel
  qpi := p.devPowerOn.qpi
  addr4 := p.devPowerOn.addr4 && decide (p.devVariant = .A)
  rsten := p.devPowerOn.rsten
  dcfg := p.devPowerOn.dcfg
  cur := none

/-- 256 bytes given by a function of their index. -/
def bufOf (f : Nat → Byte) : Vector Byte 256 :=
  ⟨⟨(List.range 256).map f⟩, by simp⟩

/-- The machine right after power-on reset of the QFE and the device together (R320, R229), a variant-B build with the
default parameters, an erased array, no input and no schedule (notes/assumptions/1.md to 3.md). -/
def State.reset : State where
  cfg := Params.default .B
  bpe := Bpe.powerOn
  fcs := Fcs.powerOn
  crc := Crc.powerOn
  seqbuf := bufOf Config.seqbufPowerOn
  dev := Dev.powerOn (Params.default .B) []
  clk := Config.clkInit
  faults := []
  resp := .none
  inputs := []
  sched := []
  draws := 0

end Sys2Proof.Machine
end

