-- ==== Sys2Proof/Machine/Flash.lean ====
section
/-! DEFINITION. The flash array as memory: reading, programming, erasing and arbitrary content, all in one canonical form
(R61, R62, R210, R220, R221). -/

namespace Sys2Proof.Machine

/-- The erased state of a flash byte, which is what an unlisted address reads as (R62). -/
def erasedByte : Byte := 0xFF#8

/-- The byte of the array at an address. -/
def flashRead (m : FlashMem) (a : Nat) : Byte :=
  match m with
  | [] => erasedByte
  | (k, b) :: t => if k = a then b else flashRead t a

/-- The array with byte `b` at address `a`, in canonical form. -/
def flashInsert (m : FlashMem) (a : Nat) (b : Byte) : FlashMem :=
  match m with
  | [] => if b = erasedByte then [] else [(a, b)]
  | (k, c) :: t =>
    if a < k then (if b = erasedByte then (k, c) :: t else (a, b) :: (k, c) :: t)
    else if a = k then (if b = erasedByte then t else (a, b) :: t)
    else (k, c) :: flashInsert t a b

/-- The array `[0, cap)` with byte `b` at address `a`; an address outside it holds nothing (R60). -/
def flashWrite (cap : Nat) (m : FlashMem) (a : Nat) (b : Byte) : FlashMem :=
  if a < cap then flashInsert m a b else m

/-- The array with `vals x` at every address `x` of `[lo, lo + n)`. -/
def flashFill (cap : Nat) (vals : Nat → Byte) (lo : Nat) (n : Nat) (m : FlashMem) : FlashMem :=
  match n with
  | 0 => m
  | n + 1 => flashWrite cap (flashFill cap vals lo n m) (lo + n) (vals (lo + n))

/-- The array with every byte of `[lo, lo + n)` erased (R220). -/
def flashErase (m : FlashMem) (lo n : Nat) : FlashMem :=
  m.filter fun c => decide (c.1 < lo ∨ lo + n ≤ c.1)

/-- The array after a program: each byte ANDed with its data (R221). -/
def flashProgram (cap : Nat) (m : FlashMem) (pairs : List (Nat × Byte)) : FlashMem :=
  pairs.foldl (fun m p => flashWrite cap m p.1 (flashRead m p.1 &&& p.2)) m

/-- The array with `vals x` at each of the addresses. -/
def flashScatter (cap : Nat) (vals : Nat → Byte) (m : FlashMem) (addrs : List Nat) : FlashMem :=
  addrs.foldl (fun m a => flashWrite cap m a (vals a)) m

/-- The canonical form of the array `[0, cap)`: addresses strictly rising and inside it, no byte the erased one. -/
abbrev Memory.wf (cap : Nat) (m : FlashMem) : Prop :=
  m.Pairwise (fun x y => x.1 < y.1) ∧ ∀ c ∈ m, c.2 ≠ erasedByte ∧ c.1 < cap

/-- The base of the sector with this index (R61). -/
def sectorBase (p : Params) (sector : Nat) : Nat := sector * p.sectorSize

/-- The page base of an address (R61). -/
def pageBase (p : Params) (a : Nat) : Nat := a - a % p.pageSize

end Sys2Proof.Machine
end

