-- ==== Sys2Proof/Machine/Ops.lean ====
section
/-! DEFINITION. The shared operations of the machine: free draws, the refusal of a host access (the one exception this
hardware takes), the answers to the host, SEQBUF, and the schedule. -/

namespace Sys2Proof.Machine

/-! ## Free draws (R10) -/

/-- The next draw is used up. -/
def State.nextDraw (s : State) : State := { s with draws := s.draws + 1 }

/-- `draw x : bool` (R10). -/
def State.drawBit (s : State) : Bool × State := (Config.freeBit s.draws 0, s.nextDraw)

/-- `draw x : u8` (R10). -/
def State.drawByte (s : State) : Byte × State := (Config.freeByte s.draws 0, s.nextDraw)

/-- The draw `stall` of R120 and R133: made only where the model admits stalls. -/
def State.drawStall (s : State) : Bool × State :=
  if s.cfg.busMayStall then s.drawBit else (false, s)

/-! ## Answers to the host, and the fault

A fault is the QFE's response to a host access it refuses: a bus error, no effect on any state, its reason in the
never-cleared fault record (R290, R54). The QFE has no return from it (R299): the next access is accepted normally
(R298). -/

/-- The reason added to the fault record, a set (R54). -/
def insertReason (r : FaultReason) (l : List FaultReason) : List FaultReason :=
  if r ∈ l then l else l ++ [r]

/-- `raise Fault(r)` (R290). -/
def State.raiseFault (r : FaultReason) (s : State) : State :=
  { s with faults := insertReason r s.faults, resp := .busError r }

/-- A write was accepted. -/
def State.accept (s : State) : State := { s with resp := .accepted }

/-- A read was answered with a value. -/
def State.answer (v : Word) (s : State) : State := { s with resp := .data v }

/-! ## SEQBUF (R42, R63) -/

/-- Byte `i` of a buffer; outside it there is none and 0 stands for it. -/
def bufGet (b : Vector Byte 256) (i : Nat) : Byte := b[i]?.getD 0#8

/-- The bytes `[i, i + n)` of a buffer. -/
def bufBytes (b : Vector Byte 256) (i n : Nat) : List Byte := (List.range n).map fun k => bufGet b (i + k)

/-- The buffer with the bytes of a list from index `i` on. -/
def bufSet (b : Vector Byte 256) (i : Nat) (l : List Byte) : Vector Byte 256 :=
  match l with
  | [] => b
  | x :: xs => bufSet (b.setIfInBounds i x) (i + 1) xs

/-! ## The schedule (R20, R75, R310) -/

/-- The agent of a number. -/
def agentOf (n : Nat) : Agent :=
  match n % 5 with
  | 0 => .host
  | 1 => .bpe
  | 2 => .fcs
  | 3 => .device
  | _ => .clock

/-- The agent that moves next: the schedule's first, or a free choice. -/
def State.nextAgent (s : State) : Agent :=
  match s.sched with
  | [] => agentOf (Config.freeNat s.draws)
  | a :: _ => a

/-- The state once the choice of the agent is used up. -/
def State.advance (s : State) : State :=
  match s.sched with
  | [] => s.nextDraw
  | _ :: rest => { s with sched := rest }

/-- The clock agent's step: `clk <- (clk + 1) mod 2^32` (R305). -/
def clockStep (s : State) : State := { s with clk := s.clk + 1#32 }

end Sys2Proof.Machine
end

