-- ==== Sys2Proof/Machine/Flags.lean ====
section
/-! DEFINITION. The flags and the status values computed from the state (R27 to R29, R39, R40, R50, R52, R53, R55). -/

namespace Sys2Proof.Machine

/-- The defined bits of INTEN and INTFLAG: ERROR 3, INSTREND 10, SEQDONE 16 (R27, R28). -/
def intMask : Word := 0x00010408#32

/-- INTFLAG.ERROR. -/
def flagError : Word := 0x00000008#32

/-- INTFLAG.INSTREND. -/
def flagInstrEnd : Word := 0x00000400#32

/-- INTFLAG.SEQDONE. -/
def flagSeqDone : Word := 0x00010000#32

/-- An INTFLAG bit is set (R28). -/
def Bpe.setFlag (v : Word) (b : Bpe) : Bpe := { b with intflag := b.intflag ||| v }

/-- INTFLAG's write 1 to clear (R28). -/
def Bpe.clearFlags (v : Word) (b : Bpe) : Bpe := { b with intflag := b.intflag &&& ~~~(v &&& intMask) }

/-- A write to INTENSET (R27). -/
def Bpe.setEnables (v : Word) (b : Bpe) : Bpe := { b with inten := b.inten ||| (v &&& intMask) }

/-- A write to INTENCLR (R27). -/
def Bpe.clearEnables (v : Word) (b : Bpe) : Bpe := { b with inten := b.inten &&& ~~~(v &&& intMask) }

/-- An INTFLAG bit is set in the machine. -/
def State.flag (v : Word) (s : State) : State := { s with bpe := s.bpe.setFlag v }

/-- The interrupt output: `IRQ = ((INTFLAG & INTEN) ≠ 0)` (R55). -/
def State.irq (s : State) : Bool := s.bpe.intflag &&& s.bpe.inten != 0#32

/-- CTRLB.MODE: memory mode (R25). -/
def Bpe.memMode (b : Bpe) : Bool := b.ctrlb.getLsbD 0

/-- Chip select is asserted by a host frame (R29). -/
def Bpe.csact (b : Bpe) : Bool :=
  match b.fstate with
  | .idle => false
  | .armed => false
  | .opened => true
  | .running => true

/-- The code of FRAMESTATE (R29). -/
def FrameState.code : FrameState → Word
  | .idle => 0#32
  | .armed => 1#32
  | .opened => 2#32
  | .running => 3#32

/-- The code of a sequencer step (R152). -/
def SeqStep.code : SeqStep → Word
  | .idle => 0#32
  | .check => 1#32
  | .wren => 2#32
  | .pollWel => 3#32
  | .main => 4#32
  | .main2 => 5#32
  | .pollWip => 6#32

/-- The code of an error (R294). -/
def ErrCode.code : ErrCode → Word
  | .none => 0#32
  | .busTimeout => 1#32
  | .deviceNotReady => 2#32
  | .unsupported => 3#32
  | .capacityExceeded => 4#32
  | .invalidParameter => 5#32

/-- The value of STATUS (R29). -/
def State.statusValue (s : State) : Word :=
  bitAt s.bpe.enable 1 ||| (s.bpe.fstate.code <<< 4) ||| bitAt s.bpe.csact 9 ||| bitAt s.fcs.busy 16

/-- SEQSTATUS.VARIANT: 0 for A, 1 for B (R45). -/
def variantBit (v : Variant) : Bool :=
  match v with
  | .A => false
  | .B => true

/-- The value of SEQSTATUS (R39). -/
def State.seqstatusValue (s : State) : Word :=
  bitAt s.fcs.busy 0 ||| bitAt s.fcs.doneFlag 1 ||| (s.fcs.err.code <<< 4) ||| (s.fcs.step.code <<< 8) |||
    (s.fcs.failstep.code <<< 12) ||| bitAt s.fcs.quadact 16 ||| bitAt s.fcs.addr4 17 |||
    bitAt (variantBit s.cfg.variant) 24

/-- The value of CRCRESULT (R50). -/
def Crc.result (c : Crc) : Word := c.crcstate ^^^ 0xFFFFFFFF#32

/-- CRCSTATUS.MATCH (R52). -/
def Crc.isMatch (c : Crc) : Bool := c.result == c.crcexpect

/-- The value of CRCSTATUS (R52). -/
def Crc.status (c : Crc) : Word := bitAt c.isMatch 0

/-- One bit of a byte set or cleared. -/
def withBit (b : Byte) (i : Fin 8) (v : Bool) : Byte :=
  if v then b ||| (1#8 <<< i.val) else b &&& ~~~(1#8 <<< i.val)

/-- The device is busy: it has an internal operation (R210). -/
def Dev.busy (d : Dev) : Bool := d.pending.isSome

/-- The status byte: WIP is `busy`, WEL is `wel`, the other bits those of `free` (R201, R214). -/
def statusByte (p : Params) (d : Dev) (free : Byte) : Byte :=
  withBit (withBit free p.wipBit d.busy) p.welBit d.wel

end Sys2Proof.Machine
end

