-- ==== Sys2Proof/Machine/Operands.lean ====
section
/-! DEFINITION. Operands: the checks and the assembly of a frame descriptor (R88 to R94), the fields of SEQPARAM and
SEQBUDGET (R97, R98), the capacity and page checks (R61, R157), and the frames the sequencer builds (R155). -/

namespace Sys2Proof.Machine

/-! ## The frame descriptor -/

/-- The names of R93's checks, in its order. -/
inductive DescCheck
  | badWidth | noOpcode | continuousRead | doubleDataRate | dummyRange | reserved | optionLanes | kindNoData
deriving DecidableEq, Repr

/-- The width a WIDTH code stands for; the reserved code 7, which no valid descriptor has, counts as single. -/
def widthOf (c : BitVec 3) : WidthCode := (WidthCode.ofBits c).getD .w111

/-- R92: the option bits fill whole cycles of the address lanes. -/
def optionFits (w : WidthCode) (optLen : BitVec 2) : Bool := optBits optLen % w.addrLanes == 0

/-- One check of R93 holds of a descriptor. -/
def DescCheck.holds (c : DescCheck) (v : Word) : Bool :=
  match c with
  | .badWidth => v.extractLsb' 0 3 != 7#3
  | .noOpcode => v.getLsbD 4
  | .continuousRead => !v.getLsbD 14
  | .doubleDataRate => !v.getLsbD 15
  | .dummyRange => decide ((v.extractLsb' 16 5).toNat ≤ 15)
  | .reserved => !v.getLsbD 3 && !v.getLsbD 11 && (v.extractLsb' 21 11 == 0#11)
  | .optionLanes => !v.getLsbD 6 || optionFits (widthOf (v.extractLsb' 0 3)) (v.extractLsb' 8 2)
  | .kindNoData => v.getLsbD 7 || (v.extractLsb' 12 2 == 0#2)

/-- R93's order. -/
def descChecks : List DescCheck :=
  [.badWidth, .noOpcode, .continuousRead, .doubleDataRate, .dummyRange, .reserved, .optionLanes, .kindNoData]

/-- The first check of R93 that a descriptor fails; none where it is valid. -/
def firstFailing (v : Word) : Option DescCheck := descChecks.find? fun c => !c.holds v

/-- R93: the descriptor is valid. -/
def descValid (v : Word) : Bool := descChecks.all fun c => c.holds v

/-- The kind of a valid descriptor (R90); an invalid combination counts as a command. -/
def kindOf (v : Word) : Kind := (Kind.ofBits (v.getLsbD 7) (v.extractLsb' 12 2)).getD .cmd

/-- The bits of the option byte that an option of `2 ^ optLen` bits has (R88). -/
def optMask (optLen : BitVec 2) : Byte :=
  match optLen.toNat with
  | 0 => 0x01#8
  | 1 => 0x03#8
  | 2 => 0x0F#8
  | _ => 0xFF#8

/-- Frame assembly (R94) from a valid descriptor, INSTRCTRL and a frame address. -/
def assemble (v ic a : Word) : Frame where
  width := widthOf (v.extractLsb' 0 3)
  addrEn := v.getLsbD 5
  addr32 := v.getLsbD 10
  addr := a
  optEn := v.getLsbD 6
  optLen := v.extractLsb' 8 2
  opt := ic.extractLsb' 16 8 &&& optMask (v.extractLsb' 8 2)
  dummy := v.extractLsb' 16 4
  kind := kindOf v
  instr := ic.extractLsb' 0 8

/-- A latched frame with its address chosen (R117). -/
def frameAt (f : Frame) (a : Word) : Frame := { f with addr := a }

/-! ## Reserved bits of the storage registers (R23) -/

/-- INSTRCTRL: INSTR[7:0] and OPTCODE[23:16] (R31). -/
def instrctrlMask : Word := 0x00FF00FF#32

/-- SEQPARAM: WIDTH[2:0], DUMMY[7:4], OPTEN[8], OPTLEN[10:9], OPTCODE[23:16] (R37). -/
def seqparamMask : Word := 0x00FF07F7#32

/-- SEQBUDGET: VALUE[23:0], MODE[31] (R38). -/
def seqbudgetMask : Word := 0x80FFFFFF#32

/-! ## SEQPARAM and SEQBUDGET (R37, R38, R97, R98) -/

/-- SEQPARAM.WIDTH. -/
def Fcs.paramWidth (c : Fcs) : BitVec 3 := c.seqparam.extractLsb' 0 3

/-- SEQPARAM.DUMMY. -/
def Fcs.paramDummy (c : Fcs) : BitVec 4 := c.seqparam.extractLsb' 4 4

/-- SEQPARAM.OPTEN. -/
def Fcs.paramOptEn (c : Fcs) : Bool := c.seqparam.getLsbD 8

/-- SEQPARAM.OPTLEN. -/
def Fcs.paramOptLen (c : Fcs) : BitVec 2 := c.seqparam.extractLsb' 9 2

/-- SEQPARAM.OPTCODE. -/
def Fcs.paramOpt (c : Fcs) : Byte := c.seqparam.extractLsb' 16 8

/-- SEQBUDGET.VALUE. -/
def Fcs.budgetValue (c : Fcs) : Nat := (c.seqbudget.extractLsb' 0 24).toNat

/-- SEQBUDGET.MODE: milliseconds. -/
def Fcs.budgetMs (c : Fcs) : Bool := c.seqbudget.getLsbD 31

/-! ## Operand checks -/

/-- R157: the range of `n` bytes at `a` is in capacity. -/
def inCapacity (p : Params) (addr4 : Bool) (a n : Nat) : Bool :=
  decide (a + n ≤ p.capacity) && (addr4 || decide (a + n ≤ 2 ^ 24))

/-- R61: the range of `n` bytes at `a` straddles a page boundary. -/
def straddles (p : Params) (a n : Nat) : Bool := decide (a % p.pageSize + n > p.pageSize)

/-- R182: the HIGH_SPEED_READ parameters are accepted. -/
def paramsOk (quad : Bool) (c : Fcs) : Bool :=
  (if quad then c.paramWidth == 6#3 else decide (c.paramWidth.toNat ≤ 4)) &&
    (!c.paramOptEn || optionFits (widthOf c.paramWidth) c.paramOptLen)

/-! ## The sequencer's frames (R154 to R156) -/

/-- The command width `cw` (R154). -/
def cmdWidth (quad : Bool) : WidthCode := if quad then .w444 else .w111

/-- A frame with an opcode alone. -/
def opcodeFrame (w : WidthCode) (op : Byte) (dummy : BitVec 4) (k : Kind) : Frame where
  width := w
  addrEn := false
  addr32 := false
  addr := 0#32
  optEn := false
  optLen := 0#2
  opt := 0#8
  dummy := dummy
  kind := k
  instr := op

/-- A frame with an opcode and SEQADDR, 24 or 32 bits by ADDR4 (R156). -/
def addressFrame (w : WidthCode) (op : Byte) (addr4 : Bool) (a : Word) (k : Kind) : Frame where
  width := w
  addrEn := true
  addr32 := addr4
  addr := a
  optEn := false
  optLen := 0#2
  opt := 0#8
  dummy := 0#4
  kind := k
  instr := op

/-- F_RSTEN (R155). -/
def fRsten (s : State) : Frame := opcodeFrame (cmdWidth s.fcs.quadact) s.cfg.ops.rsten 0#4 .cmd

/-- F_RST (R155). -/
def fRst (s : State) : Frame := opcodeFrame (cmdWidth s.fcs.quadact) s.cfg.ops.rst 0#4 .cmd

/-- F_RDID (R155). -/
def fRdid (s : State) : Frame :=
  opcodeFrame (cmdWidth s.fcs.quadact) (if s.fcs.quadact then s.cfg.ops.rdidQ else s.cfg.ops.rdid)
    (if s.fcs.quadact then s.cfg.ops.dummyRdidQ else 0#4) .regRead

/-- F_RDSR (R155). -/
def fRdsr (s : State) : Frame :=
  opcodeFrame (cmdWidth s.fcs.quadact) s.cfg.ops.rdsr (if s.fcs.quadact then s.cfg.ops.dummyRdsrQ else 0#4) .regRead

/-- F_WREN (R155). -/
def fWren (s : State) : Frame := opcodeFrame (cmdWidth s.fcs.quadact) s.cfg.ops.wren 0#4 .cmd

/-- F_EQIO, variant B, width 0 (R155). -/
def fEqio (s : State) : Frame := opcodeFrame .w111 s.cfg.ops.eqio 0#4 .cmd

/-- F_WREVCR, variant A, width 0 (R155). -/
def fWrevcr (s : State) : Frame := opcodeFrame .w111 s.cfg.ops.wrevcr 0#4 .regWrite

/-- F_SE (R155). -/
def fSe (s : State) : Frame :=
  addressFrame (cmdWidth s.fcs.quadact) s.cfg.ops.se s.fcs.addr4 s.fcs.seqaddr .cmd

/-- F_PP (R155). -/
def fPp (s : State) : Frame :=
  addressFrame (cmdWidth s.fcs.quadact) s.cfg.ops.pp s.fcs.addr4 s.fcs.seqaddr .memWrite

/-- F_READ (R155, R181, R184). -/
def fRead (s : State) : Frame where
  width := widthOf s.fcs.paramWidth
  addrEn := true
  addr32 := s.fcs.addr4
  addr := s.fcs.seqaddr
  optEn := s.fcs.paramOptEn
  optLen := s.fcs.paramOptLen
  opt := s.fcs.paramOpt
  dummy := s.fcs.paramDummy
  kind := .memRead
  instr := (s.cfg.ops.read (widthOf s.fcs.paramWidth)).getD s.cfg.ops.read111

/-- F_WRVCR (R155). -/
def fWrvcr (s : State) : Frame := opcodeFrame (cmdWidth s.fcs.quadact) s.cfg.ops.wrvcr 0#4 .regWrite

/-- The data byte of F_WRVCR: `(SEQPARAM.DUMMY << 4) | VCR_LOW_A` (R155). -/
def vcrByte (s : State) : Byte := (s.fcs.paramDummy.setWidth 8 <<< 4) ||| s.cfg.ops.vcrLow.setWidth 8

/-- F_EN4B (R155). -/
def fEn4b (s : State) : Frame := opcodeFrame (cmdWidth s.fcs.quadact) s.cfg.ops.en4b 0#4 .cmd

/-- F_EX4B (R155). -/
def fEx4b (s : State) : Frame := opcodeFrame (cmdWidth s.fcs.quadact) s.cfg.ops.ex4b 0#4 .cmd

end Sys2Proof.Machine
end

