-- ==== Sys2Proof/Machine/Device.lean ====
section
/-! DEFINITION. The flash device: how it decodes a frame at its begin, the bytes it supplies, the effect of a frame at
its end, its internal completion, and arbitrary state (spec/42_flash_commands.md R201 to R231). -/

namespace Sys2Proof.Machine

/-! ## Arbitrary state (R211) -/

/-- An arbitrary internal operation, or none, of draw `n`. -/
def freePending (n : Nat) : Option Pending :=
  if Config.freeBit n 0 then
    some (if Config.freeBit n 1 then .erase (Config.freeNat n) else .program (Config.freePairs n))
  else none

/-- A device whose every element is arbitrary (draw `n`), but for what a device of variant B cannot be (R210:
`addr4` always 0); the frame on the bus stays. -/
def Dev.arbitrary (p : Params) (n : Nat) (d : Dev) : Dev where
  arr := flashFill p.capacity (Config.freeByte n) 0 p.capacity []
  pending := freePending n
  wel := Config.freeBit n 2
  qpi := Config.freeBit n 3
  addr4 := Config.freeBit n 4 && !(variantBit p.devVariant)
  rsten := Config.freeBit n 5
  dcfg := (Config.freeByte n p.capacity).setWidth 4
  cur := d.cur

/-- `Dev.Havoc()` (R211). -/
def State.havoc (s : State) : State :=
  { s.nextDraw with dev := s.dev.arbitrary s.cfg s.draws }

/-! ## Decoding at the begin of a frame (R212, R213) -/

/-- The rows of R213. -/
inductive DevOp
  | wren | rdsr | rdid | se | pp | read (w : WidthCode) | rsten | rst | eqio | wrevcr | wrvcr | en4b | ex4b
deriving DecidableEq, Repr

/-- The rows both variants and both modes decode. -/
def lookupCommon (t : OpTable) (op : Byte) : Option DevOp :=
  if op = t.wren then some .wren
  else if op = t.rdsr then some .rdsr
  else if op = t.se then some .se
  else if op = t.pp then some .pp
  else if op = t.rsten then some .rsten
  else if op = t.rst then some .rst
  else none

/-- The rows of one mode for both variants. -/
def lookupMode (t : OpTable) (quad : Bool) (op : Byte) : Option DevOp :=
  if quad then
    if op = t.rdidQ then some .rdid
    else if op = t.read444 then some (.read .w444)
    else none
  else
    if op = t.rdid then some .rdid
    else if op = t.read111 then some (.read .w111)
    else if op = t.read112 then some (.read .w112)
    else if op = t.read114 then some (.read .w114)
    else if op = t.read122 then some (.read .w122)
    else if op = t.read144 then some (.read .w144)
    else none

/-- The rows of one variant. -/
def lookupVariant (t : OpTable) (v : Variant) (quad : Bool) (op : Byte) : Option DevOp :=
  match v with
  | .B => if op = t.eqio ∧ quad = false then some .eqio else none
  | .A =>
    if op = t.wrevcr ∧ quad = false then some .wrevcr
    else if op = t.wrvcr then some .wrvcr
    else if op = t.en4b then some .en4b
    else if op = t.ex4b then some .ex4b
    else none

/-- The row of R213 that an opcode is, for the device's variant and mode; none where it is not decoded (R231). -/
def devLookup (p : Params) (quad : Bool) (op : Byte) : Option DevOp :=
  (lookupCommon p.devOps op).orElse fun _ =>
    (lookupMode p.devOps quad op).orElse fun _ => lookupVariant p.devOps p.devVariant quad op

/-- The shape of every row but the array reads: the width code of the mode, the address phase present or not and of the
device's width, no option, and this many dummy cycles (R212, R213; notes/assumptions/13.md). -/
def commandShape (d : Dev) (addr : Bool) (dummy : BitVec 4) (f : Frame) : Bool :=
  f.width == cmdWidth d.qpi && f.addrEn == addr && (!addr || f.addr32 == d.addr4) && !f.optEn && f.dummy == dummy

/-- `DEV_SAFE_OPT` of the option a frame sends (R202). -/
def safeOption (p : Params) (f : Frame) : Bool :=
  !p.unsafeOpts.any fun q =>
    q.width == f.width && q.optLen == f.optLen && (BitVec.ofNat 8 f.sentOpt &&& q.mask) == q.value

/-- `DEV_READ_CYCLES(w, dcfg)` (R202). -/
def devReadCycles (p : Params) (w : WidthCode) (dcfg : BitVec 4) : Nat :=
  p.readCycles[16 * w.toBits.toNat + dcfg.toNat]?.getD 0

/-- The cycles of a frame between its address and its data: option and dummy together (R216), an option's full cycles
alone (notes/assumptions/29.md). -/
def turnaround (f : Frame) : Nat := f.optBitCount / f.width.addrLanes + f.dummy.toNat

/-- A read opcode's plan (R216) at the width the opcode stands for. -/
def readPlan (p : Params) (d : Dev) (w : WidthCode) (f : Frame) : DevPlan :=
  if f.width = w ∧ f.addrEn = true ∧ f.addr32 = d.addr4 ∧ f.kind.isRead = true then
    if f.optEn = true ∧ safeOption p f = false then .havocAtEnd
    else if turnaround f = devReadCycles p w d.dcfg then .array f.sentAddr
    else .badRead
  else .badRead

/-- The plan of a decoded row: its own effect if the frame has the row's shape, else R212's for a wrong shape. -/
def opPlan (p : Params) (d : Dev) (f : Frame) : DevOp → DevPlan
  | .wren => if commandShape d false 0#4 f then .wren else .havocAtEnd
  | .rdsr =>
    if commandShape d false (if d.qpi then p.devOps.dummyRdsrQ else 0#4) f && f.kind.isRead then .status else .badRead
  | .rdid =>
    if commandShape d false (if d.qpi then p.devOps.dummyRdidQ else 0#4) f && f.kind.isRead then .identity
    else .badRead
  | .se => if commandShape d true 0#4 f then .erase f.sentAddr else .havocAtEnd
  | .pp => if commandShape d true 0#4 f && f.kind.isWrite then .program f.sentAddr else .havocAtEnd
  | .read w => readPlan p d w f
  | .rsten => if commandShape d false 0#4 f then .rsten else .havocAtEnd
  | .rst => if commandShape d false 0#4 f then .rst else .havocAtEnd
  | .eqio => if commandShape d false 0#4 f then .eqio else .havocAtEnd
  | .wrevcr => if commandShape d false 0#4 f && f.kind.isWrite then .wrevcr else .havocAtEnd
  | .wrvcr => if commandShape d false 0#4 f && f.kind.isWrite then .wrvcr else .havocAtEnd
  | .en4b => if commandShape d false 0#4 f then .en4b else .havocAtEnd
  | .ex4b => if commandShape d false 0#4 f then .ex4b else .havocAtEnd

/-- The opcodes a busy device decodes (R212, R216). -/
def passesBusy (p : Params) (op : Byte) : Bool :=
  op == p.devOps.rdsr || op == p.devOps.rsten || op == p.devOps.rst

/-- The device's own command lanes (R212). -/
def Dev.lanes (d : Dev) : Nat := if d.qpi then 4 else 1

/-- R212: command width, busy gate, opcode, shape, in this order. -/
def devPlan (p : Params) (d : Dev) (f : Frame) : DevPlan :=
  if f.width.cmdLanes ≠ d.lanes then .misread (!d.qpi)
  else if d.busy = true ∧ passesBusy p f.instr = false then .ignored
  else
    match devLookup p d.qpi f.instr with
    | none => .ignored
    | some o => opPlan p d f o

/-! ## The primitives (R211, R120) -/

/-- `Dev.Begin(f)`. -/
def State.devBegin (f : Frame) (s : State) : State :=
  { s with dev := { s.dev with cur := some { frame := f, plan := devPlan s.cfg s.dev f, sent := 0, recv := [] } } }

/-- The data byte number `k` of a frame; `free` is the arbitrary byte (R214 to R216, R231). -/
def planByte (p : Params) (d : Dev) (k : Nat) (free : Byte) : DevPlan → Byte
  | .status => statusByte p d free
  | .identity =>
    match k with
    | 0 => p.devId.mfr
    | 1 => p.devId.typ
    | 2 => p.devId.capid
    | _ => free
  | .array a => flashRead d.arr ((a + k) % p.capacity)
  | .ignored => free
  | .misread _ => free
  | .havocAtEnd => free
  | .badRead => free
  | .wren => free
  | .erase _ => free
  | .program _ => free
  | .rsten => free
  | .rst => free
  | .eqio => free
  | .wrevcr => free
  | .wrvcr => free
  | .en4b => free
  | .ex4b => free

/-- The byte `Dev.ReadByte()` supplies now. -/
def State.devByte (s : State) : Byte :=
  match s.dev.cur with
  | none => Config.freeByte s.draws 0
  | some c => planByte s.cfg s.dev c.sent (Config.freeByte s.draws 0) c.plan

/-- The state after `Dev.ReadByte()`; one draw is used up for every byte. -/
def State.devSent (s : State) : State :=
  { s.nextDraw with dev := { s.dev with cur := s.dev.cur.map fun c => { c with sent := c.sent + 1 } } }

/-- The next `n` bytes the device supplies. -/
def State.devBytes (s : State) : Nat → List Byte
  | 0 => []
  | n + 1 => s.devByte :: s.devSent.devBytes n

/-- The state after `n` bytes supplied. -/
def State.devSentN (s : State) : Nat → State
  | 0 => s
  | n + 1 => s.devSent.devSentN n

/-- `Dev.WriteByte` of each byte of a list, first byte first. -/
def State.devTake (l : List Byte) (s : State) : State :=
  { s with dev := { s.dev with cur := s.dev.cur.map fun c => { c with recv := c.recv ++ l } } }

/-! ## The effect of a frame at its end (R213, R217, R218, R222 to R227) -/

/-- How many data bytes a frame has moved. -/
def InFlight.moved (c : InFlight) : Nat := c.sent + c.recv.length

/-- R217: a sector erase at address `a`. -/
def startErase (p : Params) (a : Nat) (d : Dev) : Dev :=
  if d.wel then { d with pending := some (.erase (a % p.capacity / p.sectorSize)) } else d

/-- The bytes a page program keeps and the addresses they are destined for (R218). -/
def programPairs (p : Params) (a : Nat) (l : List Byte) : List (Nat × Byte) :=
  let skip := l.length - p.pageSize
  (l.zipIdx.drop skip).map fun x =>
    (pageBase p (a % p.capacity) + (a % p.pageSize + x.2) % p.pageSize, x.1)

/-- R218: a page program at address `a` with these data bytes. -/
def startProgram (p : Params) (a : Nat) (l : List Byte) (d : Dev) : Dev :=
  if d.wel = true ∧ l ≠ [] then { d with pending := some (.program (programPairs p a l)) } else d

/-- The target bytes of an internal operation (R220). -/
def Pending.targets (p : Params) : Pending → List Nat
  | .erase k => (List.range p.sectorSize).map fun i => sectorBase p k + i
  | .program pairs => pairs.map fun x => x.1

/-- The target sector, or the target page, of an internal operation (R222). -/
def Pending.region (p : Params) : Pending → List Nat
  | .erase k => (List.range p.sectorSize).map fun i => sectorBase p k + i
  | .program pairs => pairs.flatMap fun x => (List.range p.pageSize).map fun i => pageBase p x.1 + i

/-- The array once an internal operation is abandoned: its target sector or page is arbitrary (draw `n`). -/
def abandonedArr (p : Params) (n : Nat) (d : Dev) : FlashMem :=
  match d.pending with
  | none => d.arr
  | some op => flashScatter p.capacity (Config.freeByte n) d.arr (op.region p)

/-- R222: the device is reset. -/
def State.devReset (s : State) : State :=
  { s.nextDraw with
    dev := { s.dev with arr := abandonedArr s.cfg s.draws s.dev, pending := none, qpi := false, addr4 := false,
                        wel := false, dcfg := 15#4 } }

/-- R225: OP_WREVCR with data byte `e`. -/
def State.devWrevcr (e : Byte) (s : State) : State :=
  if s.dev.wel = false then s
  else if e ≠ s.cfg.devOps.evcrQuad then s.havoc
  else { s with dev := { s.dev with wel := false, qpi := s.dev.qpi || decide (e ∈ s.cfg.quadEvcr) } }

/-- R226: OP_WRVCR with data byte `e`. -/
def State.devWrvcr (e : Byte) (s : State) : State :=
  if s.dev.wel = false then s
  else if e.extractLsb' 0 4 ≠ s.cfg.devOps.vcrLow then s.havoc
  else { s with dev := { s.dev with wel := false, dcfg := e.extractLsb' 4 4 } }

/-- R227: OP_EN4B (`on`) and OP_EX4B. -/
def devAddrMode (on : Bool) (d : Dev) : Dev :=
  if d.wel then { d with addr4 := on, wel := false } else d

/-- The effect of a frame at its end; a row without data in which data moved, and a one-byte row in which another
number of bytes moved, have the wrong shape (R212; notes/assumptions/12.md). -/
def State.devEffect (c : InFlight) (s : State) : State :=
  match c.plan with
  | .ignored => s
  | .misread single => if single = true ∧ c.frame.cycles c.moved < 8 then s else s.havoc
  | .havocAtEnd => s.havoc
  | .badRead => s
  | .status => s
  | .identity => s
  | .array _ => s
  | .wren => if c.moved = 0 then { s with dev := { s.dev with wel := true } } else s.havoc
  | .erase a => if c.moved = 0 then { s with dev := startErase s.cfg a s.dev } else s.havoc
  | .program a => { s with dev := startProgram s.cfg a c.recv s.dev }
  | .rsten => if c.moved = 0 then s else s.havoc
  | .rst => if c.moved = 0 then (if s.dev.rsten then s.devReset else s) else s.havoc
  | .eqio => if c.moved = 0 then { s with dev := { s.dev with qpi := true } } else s.havoc
  | .wrevcr =>
    match c.recv with
    | [e] => s.devWrevcr e
    | _ => s.havoc
  | .wrvcr =>
    match c.recv with
    | [e] => s.devWrvcr e
    | _ => s.havoc
  | .en4b => if c.moved = 0 then { s with dev := devAddrMode true s.dev } else s.havoc
  | .ex4b => if c.moved = 0 then { s with dev := devAddrMode false s.dev } else s.havoc

/-- The frame was a decoded reset-enable (R211). -/
def InFlight.isRsten (c : InFlight) : Bool := c.plan == .rsten && c.moved == 0

/-- `Dev.End()` (R211). -/
def State.devEnd (s : State) : State :=
  match s.dev.cur with
  | none => s
  | some c =>
    let t := s.devEffect c
    { t with dev := { t.dev with rsten := c.isRsten, cur := none } }

/-- A frame cut short: `Dev.Havoc()`, and chip select rises (R321). -/
def State.devCut (s : State) : State :=
  { s.havoc with dev := { s.havoc.dev with cur := none } }

/-! ## Whole frames -/

/-- The state before the end of a whole frame. -/
def State.devData (f : BusFrame) (s : State) : State :=
  if f.frame.kind.isRead then (s.devBegin f.frame).devSentN f.nIn
  else if f.frame.kind.isWrite then (s.devBegin f.frame).devTake f.out
  else s.devBegin f.frame

/-- The bytes a whole frame reads. -/
def State.frameBytes (f : BusFrame) (s : State) : List Byte :=
  if f.frame.kind.isRead then (s.devBegin f.frame).devBytes f.nIn else []

/-- The state after a whole frame: begin, data, end, in one indivisible step (R120). -/
def State.perform (f : BusFrame) (s : State) : State := (s.devData f).devEnd

/-- A frame put on the bus from outside the QFE: one step, unless a host frame holds chip select (R124, R212). -/
def busDeliver (f : BusFrame) (s : State) : State :=
  if s.bpe.csact then { s with resp := .turnedAway }
  else { s.perform f with resp := .bytes (s.frameBytes f) }

/-! ## The device agent (R219, R220, R221) -/

/-- The array once an internal operation has completed as it should. -/
def completedArr (p : Params) (op : Pending) (m : FlashMem) : FlashMem :=
  match op with
  | .erase k => flashErase m (sectorBase p k) p.sectorSize
  | .program pairs => flashProgram p.capacity m pairs

/-- The draw `finish`: true where the model admits no hang. -/
def State.drawFinish (s : State) : Bool × State :=
  if s.cfg.devMayHang then s.drawBit else (true, s)

/-- The draw of a silent failure: made only where the model admits one. -/
def State.drawSilent (s : State) : Bool × State :=
  if s.cfg.devSilentFail then s.drawBit else (false, s)

/-- The completion of an internal operation, done (`silent = false`) or silently failed (R219, R220). -/
def State.devComplete (op : Pending) (silent : Bool) (s : State) : State :=
  { s.nextDraw with
    dev := { s.dev with
      arr := if silent then flashScatter s.cfg.capacity (Config.freeByte s.draws) s.dev.arr (op.targets s.cfg)
             else completedArr s.cfg op s.dev.arr
      wel := false
      pending := none } }

/-- The device agent's step (R219); nothing while the device is not busy. -/
def devStep (s : State) : State :=
  match s.dev.pending with
  | none => s
  | some op =>
    if s.drawFinish.1 then s.drawFinish.2.drawSilent.2.devComplete op s.drawFinish.2.drawSilent.1
    else s.drawFinish.2

end Sys2Proof.Machine
end

