-- ==== Sys2Proof/Machine/FlashCommands.lean ====
section
/-! DEFINITION. The device rows of the opcode table: a whole frame with the row's opcode, put on the flash bus from
outside the QFE (spec/42_flash_commands.md R211 to R227). What the device makes of it is `devPlan` and `devEffect`. -/

namespace Sys2Proof.Machine

/-- DEV.WREN (R213). -/
def execDevWren (b : BusBody) (s : State) : Host.Outcome State Fault Refusal :=
  .next (busDeliver (b.withOpcode s.cfg.devOps.wren) s)

/-- DEV.RDSR (R214). -/
def execDevRdsr (b : BusBody) (s : State) : Host.Outcome State Fault Refusal :=
  .next (busDeliver (b.withOpcode s.cfg.devOps.rdsr) s)

/-- DEV.RDID (R215). -/
def execDevRdid (b : BusBody) (s : State) : Host.Outcome State Fault Refusal :=
  .next (busDeliver (b.withOpcode s.cfg.devOps.rdid) s)

/-- DEV.RDID_Q (R215). -/
def execDevRdidQ (b : BusBody) (s : State) : Host.Outcome State Fault Refusal :=
  .next (busDeliver (b.withOpcode s.cfg.devOps.rdidQ) s)

/-- DEV.SE (R217). -/
def execDevSe (b : BusBody) (s : State) : Host.Outcome State Fault Refusal :=
  .next (busDeliver (b.withOpcode s.cfg.devOps.se) s)

/-- DEV.PP (R218). -/
def execDevPp (b : BusBody) (s : State) : Host.Outcome State Fault Refusal :=
  .next (busDeliver (b.withOpcode s.cfg.devOps.pp) s)

/-- DEV.READ_111 (R216), with OP_READ(6) in a 4-4-4 frame. -/
def execDevRead111 (b : BusBody) (s : State) : Host.Outcome State Fault Refusal :=
  .next (busDeliver (b.withOpcode (s.cfg.devOps.read111For b.shape.width)) s)

/-- DEV.READ_112 (R216). -/
def execDevRead112 (b : BusBody) (s : State) : Host.Outcome State Fault Refusal :=
  .next (busDeliver (b.withOpcode s.cfg.devOps.read112) s)

/-- DEV.READ_114 (R216). -/
def execDevRead114 (b : BusBody) (s : State) : Host.Outcome State Fault Refusal :=
  .next (busDeliver (b.withOpcode s.cfg.devOps.read114) s)

/-- DEV.READ_122 (R216). -/
def execDevRead122 (b : BusBody) (s : State) : Host.Outcome State Fault Refusal :=
  .next (busDeliver (b.withOpcode s.cfg.devOps.read122) s)

/-- DEV.READ_144 (R216). -/
def execDevRead144 (b : BusBody) (s : State) : Host.Outcome State Fault Refusal :=
  .next (busDeliver (b.withOpcode s.cfg.devOps.read144) s)

/-- DEV.RSTEN (R211). -/
def execDevRsten (b : BusBody) (s : State) : Host.Outcome State Fault Refusal :=
  .next (busDeliver (b.withOpcode s.cfg.devOps.rsten) s)

/-- DEV.RST (R222). -/
def execDevRst (b : BusBody) (s : State) : Host.Outcome State Fault Refusal :=
  .next (busDeliver (b.withOpcode s.cfg.devOps.rst) s)

/-- DEV.EQIO (R224). -/
def execDevEqio (b : BusBody) (s : State) : Host.Outcome State Fault Refusal :=
  .next (busDeliver (b.withOpcode s.cfg.devOps.eqio) s)

/-- DEV.WREVCR (R225). -/
def execDevWrevcr (b : BusBody) (s : State) : Host.Outcome State Fault Refusal :=
  .next (busDeliver (b.withOpcode s.cfg.devOps.wrevcr) s)

/-- DEV.WRVCR (R226). -/
def execDevWrvcr (b : BusBody) (s : State) : Host.Outcome State Fault Refusal :=
  .next (busDeliver (b.withOpcode s.cfg.devOps.wrvcr) s)

/-- DEV.EN4B (R227). -/
def execDevEn4b (b : BusBody) (s : State) : Host.Outcome State Fault Refusal :=
  .next (busDeliver (b.withOpcode s.cfg.devOps.en4b) s)

/-- DEV.EX4B (R227). -/
def execDevEx4b (b : BusBody) (s : State) : Host.Outcome State Fault Refusal :=
  .next (busDeliver (b.withOpcode s.cfg.devOps.ex4b) s)

end Sys2Proof.Machine
end

