-- ==== Sys2Proof/Machine/Crc.lean ====
section
/-! DEFINITION. The CRC-32 unit: the byte update, feeding, snooping, and the meanings of the CRC rows
(spec/43_crc32.md). -/

namespace Sys2Proof.Machine

/-- One of the eight shifts of R246. -/
def crcShift (s : Word) : Word :=
  if s.getLsbD 0 then (s >>> 1) ^^^ 0xEDB88320#32 else s >>> 1

/-- `n` shifts. -/
def crcShifts (n : Nat) (s : Word) : Word :=
  match n with
  | 0 => s
  | n + 1 => crcShifts n (crcShift s)

/-- `crc_byte(s, b)` (R246). -/
def crcByte (s : Word) (b : Byte) : Word := crcShifts 8 (s ^^^ b.setWidth 32)

/-- A byte sequence fed to a state, first byte first (R241, R246). -/
def crcFeed (s : Word) (l : List Byte) : Word := l.foldl crcByte s

/-- `CRC32(m)` (R246). -/
def crc32 (m : List Byte) : Word := crcFeed 0xFFFFFFFF#32 m ^^^ 0xFFFFFFFF#32

/-- Bytes fed to CRCSTATE. -/
def Crc.feed (c : Crc) (l : List Byte) : Crc := { c with crcstate := crcFeed c.crcstate l }

/-- The data bytes of a MEMREAD frame are fed while SNOOP = 1 (R137, R244). -/
def State.snoopBytes (k : Kind) (l : List Byte) (s : State) : State :=
  if k = .memRead ∧ s.crc.snoop = true then { s with crc := s.crc.feed l } else s

/-- CRC.INIT (R240). -/
def execCrcInit (snoop : Bool) (s : State) : Host.Outcome State Fault Refusal :=
  .next { s with crc := { s.crc with crcstate := 0xFFFFFFFF#32, snoop := snoop }, resp := .accepted }

/-- CRC.SNOOP (R244): a CRCCTRL write with INIT = 0 only sets SNOOP. -/
def execCrcSnoop (snoop : Bool) (s : State) : Host.Outcome State Fault Refusal :=
  .next { s with crc := { s.crc with snoop := snoop }, resp := .accepted }

/-- CRC.FEED8 (R241). -/
def execCrcFeed8 (v : BitVec 8) (s : State) : Host.Outcome State Fault Refusal :=
  .next { s with crc := s.crc.feed (leBytes 1 (v.setWidth 32)), resp := .accepted }

/-- CRC.FEED16 (R241): least significant byte first. -/
def execCrcFeed16 (v : BitVec 16) (s : State) : Host.Outcome State Fault Refusal :=
  .next { s with crc := s.crc.feed (leBytes 2 (v.setWidth 32)), resp := .accepted }

/-- CRC.FEED32 (R241): least significant byte first. -/
def execCrcFeed32 (v : BitVec 32) (s : State) : Host.Outcome State Fault Refusal :=
  .next { s with crc := s.crc.feed (leBytes 4 v), resp := .accepted }

/-- CRC.LOAD (R242). -/
def execCrcLoad (v : Word) (s : State) : Host.Outcome State Fault Refusal :=
  .next { s with crc := { s.crc with crcstate := v }, resp := .accepted }

/-- CRC.EXPECT (R243). -/
def execCrcExpect (v : Word) (s : State) : Host.Outcome State Fault Refusal :=
  .next { s with crc := { s.crc with crcexpect := v }, resp := .accepted }

/-- CRC.RESULT (R245): CRCRESULT or CRCSTATUS is read, with no side effect. -/
def execCrcResult (r : ResultReg) (s : State) : Host.Outcome State Fault Refusal :=
  .next (match r with
    | .crcresult => s.answer s.crc.result
    | .crcstatus => s.answer s.crc.status)

end Sys2Proof.Machine
end

