-- ==== Sys2Proof/Machine/BusEngine.lean ====
section
/-! DEFINITION. The bus-protocol engine: the write of INSTRFRAME, the data window, the end of a frame, CTRLA, the flag
and mask registers, and the completion step (spec/40_bus_engine.md). -/

namespace Sys2Proof.Machine

/-! ## Starting a frame (R113) -/

/-- The engine can run a frame: CTRLA.ENABLE = 1 and CTRLB.MODE = 1 (R113, R120). -/
def Bpe.running (b : Bpe) : Bool := b.enable && b.memMode

/-- The frame latched at the INSTRFRAME write, its address not yet chosen (R33, R113). -/
def latchedFrame (v ic : Word) : Frame := assemble v ic 0#32

/-- The store and the synchronisation flag of every accepted INSTRFRAME write (R113). -/
def State.storeFrame (v : Word) (s : State) : State :=
  { s with bpe := { s.bpe with instrframe := v, syncPending := true }, resp := .accepted }

/-- A CMD frame starts (R114): it is on the bus from the INSTRFRAME write. -/
def State.startCmd (f : Frame) (s : State) : State :=
  { s with bpe := { s.bpe with fdesc := some f, fstate := .running } }.devBegin (frameAt f s.bpe.instraddr)

/-- A data frame is armed (R113). -/
def State.arm (f : Frame) (s : State) : State :=
  { s with bpe := { s.bpe with fdesc := some f, fstate := .armed, fread := 0, fwdata := [], fnext := 0#32 } }

/-- A valid descriptor starts or arms its frame. -/
def State.launch (v : Word) (s : State) : State :=
  if kindOf v = .cmd then s.startCmd (latchedFrame v s.bpe.instrctrl) else s.arm (latchedFrame v s.bpe.instrctrl)

/-- The write of a descriptor to INSTRFRAME (R113). -/
def writeInstrframe (v : Word) (s : State) : State :=
  if s.fcs.busy then s.raiseFault .sequencerBusy
  else if s.bpe.fstate ≠ .idle then s.raiseFault .frameBusy
  else if (s.bpe.running && descValid v) = false then (s.storeFrame v).flag flagError
  else (s.storeFrame v).launch v

/-- BPE.CMD (R114). -/
def execBpeCmd (d : DescFields) (s : State) : Host.Outcome State Fault Refusal :=
  .next (writeInstrframe (d.toWord .cmd) s)

/-- BPE.REGREAD (R115). -/
def execBpeRegRead (d : DescFields) (s : State) : Host.Outcome State Fault Refusal :=
  .next (writeInstrframe (d.toWord .regRead) s)

/-- BPE.MEMREAD (R118). -/
def execBpeMemRead (d : DescFields) (s : State) : Host.Outcome State Fault Refusal :=
  .next (writeInstrframe (d.toWord .memRead) s)

/-- BPE.REGWRITE (R116). -/
def execBpeRegWrite (d : DescFields) (s : State) : Host.Outcome State Fault Refusal :=
  .next (writeInstrframe (d.toWord .regWrite) s)

/-- BPE.MEMWRITE (R119). -/
def execBpeMemWrite (d : DescFields) (s : State) : Host.Outcome State Fault Refusal :=
  .next (writeInstrframe (d.toWord .memWrite) s)

/-- BPE.FRAME (R113): any descriptor value. -/
def execBpeFrame (v : Word) (s : State) : Host.Outcome State Fault Refusal :=
  .next (writeInstrframe v s)

/-- BPE.SYNC (R134): INSTRFRAME is read and `sync_pending` cleared. -/
def execBpeSync (s : State) : Host.Outcome State Fault Refusal :=
  .next { s with bpe := { s.bpe with syncPending := false }, resp := .data s.bpe.instrframe }

/-! ## The data window (R125 to R130) -/

/-- The latched frame of a data frame that is armed or open, and whether it is open. -/
def Bpe.dataFrame (b : Bpe) : Option (Frame × Bool) :=
  match b.fstate with
  | .idle => none
  | .armed => b.fdesc.map fun f => (f, false)
  | .opened => b.fdesc.map fun f => (f, true)
  | .running => none

/-- R127: the window offset is one the frame allows. -/
def offsetAllowed (b : Bpe) (f : Frame) (isOpen : Bool) (o : Word) : Bool :=
  if isOpen then o == b.fnext else f.kind.isMem || o == 0#32

/-- The direction of the access agrees with the kind of the frame (R129). -/
def directionOk (k : Kind) (isWrite : Bool) : Bool := if isWrite then k.isWrite else k.isRead

/-- The aligned accesses inside the window (R67). -/
def windowAligned (p : Params) (o : Word) (n : Nat) : Bool :=
  o.toNat % n == 0 && decide (o.toNat + n ≤ p.winSize)

/-- The faults of a window access, in the order of R293; otherwise the frame it belongs to, and whether it is open. -/
def windowCheck (s : State) (isWrite : Bool) (o : Word) (n : Nat) : Except FaultReason (Frame × Bool) :=
  if windowAligned s.cfg o n = false then .error .misaligned
  else if s.fcs.busy then .error .sequencerBusy
  else
    match s.bpe.dataFrame with
    | none => .error .noFrame
    | some (f, isOpen) =>
      if s.bpe.syncPending then .error .syncMissing
      else if directionOk f.kind isWrite = false then .error .wrongDirection
      else if offsetAllowed s.bpe f isOpen o = false then .error .notContiguous
      else .ok (f, isOpen)

/-- The address of a frame that a window access at `o` opens (R117). -/
def openAddr (s : State) (f : Frame) (o : Word) : Word := if f.kind.isMem then o else s.bpe.instraddr

/-- The frame opens, unless it is open already (R126, R128). -/
def State.openFrame (f : Frame) (isOpen : Bool) (o : Word) (s : State) : State :=
  if isOpen then s
  else { s with bpe := { s.bpe with faddr := openAddr s f o, fstate := .opened } }.devBegin (frameAt f (openAddr s f o))

/-- The bookkeeping of `n` bytes read at `o`. -/
def State.countRead (o : Word) (n : Nat) (s : State) : State :=
  { s with bpe := { s.bpe with fread := s.bpe.fread + n, fnext := o + BitVec.ofNat 32 n } }

/-- The bookkeeping of bytes written at `o`. -/
def State.countWrite (o : Word) (l : List Byte) (s : State) : State :=
  { s with bpe := { s.bpe with fwdata := s.bpe.fwdata ++ l, fnext := o + BitVec.ofNat 32 l.length } }

/-- The transfer of a window read that no fault refuses (R126). -/
def State.windowRead (f : Frame) (isOpen : Bool) (o : Word) (n : Nat) (s : State) : State :=
  let t := s.openFrame f isOpen o
  let l := t.devBytes n
  (((t.devSentN n).snoopBytes f.kind l).countRead o n).answer (ofLeBytes l)

/-- The transfer of a window write that no fault refuses (R128). -/
def State.windowWrite (f : Frame) (isOpen : Bool) (o : Word) (l : List Byte) (s : State) : State :=
  (((s.openFrame f isOpen o).devTake l).countWrite o l).accept

/-- WIN.READ (R126). -/
def execWinRead (n : AccessSize) (o : Word) (s : State) : Host.Outcome State Fault Refusal :=
  .next (match windowCheck s false o n.bytes with
    | .error r => s.raiseFault r
    | .ok (f, isOpen) => s.windowRead f isOpen o n.bytes)

/-- WIN.WRITE (R128). -/
def execWinWrite (n : AccessSize) (o : Word) (v : Word) (s : State) : Host.Outcome State Fault Refusal :=
  .next (match windowCheck s true o n.bytes with
    | .error r => s.raiseFault r
    | .ok (f, isOpen) => s.windowWrite f isOpen o (leBytes n.bytes v))

/-! ## CTRLA (R24, R131, R132, R135) -/

/-- The write of CTRLA.ENABLE (R135). -/
def State.writeEnable (en : Bool) (s : State) : State :=
  { s with bpe := { s.bpe with enable := en }, resp := .accepted }

/-- R131: an armed frame begins with the address INSTRADDR and runs to its end; an open one runs to its end. -/
def State.lastXfer (s : State) : State :=
  match s.bpe.fstate with
  | .idle => s
  | .armed =>
    match s.bpe.fdesc with
    | none => s
    | some f => { s with bpe := { s.bpe with fstate := .running } }.devBegin (frameAt f s.bpe.instraddr)
  | .opened => { s with bpe := { s.bpe with fstate := .running } }
  | .running => s

/-- A CTRLA write would clear ENABLE during a frame (R135). -/
def Bpe.disablesInFrame (b : Bpe) (en : Bool) : Bool := !en && b.fstate != .idle

/-- BPE.LASTXFER (R131). -/
def execBpeLastXfer (enable : Bool) (s : State) : Host.Outcome State Fault Refusal :=
  .next (if s.fcs.busy then s.raiseFault .sequencerBusy
    else if s.bpe.disablesInFrame enable then s.raiseFault .disableInFrame
    else (s.writeEnable enable).lastXfer)

/-- BPE.ENABLE (R135). -/
def execBpeEnable (enable : Bool) (s : State) : Host.Outcome State Fault Refusal :=
  .next (if s.bpe.disablesInFrame enable then s.raiseFault .disableInFrame else s.writeEnable enable)

/-! ## Flags and masks (R136) -/

/-- BPE.CLRFLAG (R28). -/
def execBpeClrFlag (error instrEnd seqDone : Bool) (s : State) : Host.Outcome State Fault Refusal :=
  .next { s with bpe := s.bpe.clearFlags (intBits error instrEnd seqDone), resp := .accepted }

/-- BPE.INTENSET (R27). -/
def execBpeIntenSet (error instrEnd seqDone : Bool) (s : State) : Host.Outcome State Fault Refusal :=
  .next { s with bpe := s.bpe.setEnables (intBits error instrEnd seqDone), resp := .accepted }

/-- BPE.INTENCLR (R27). -/
def execBpeIntenClr (error instrEnd seqDone : Bool) (s : State) : Host.Outcome State Fault Refusal :=
  .next { s with bpe := s.bpe.clearEnables (intBits error instrEnd seqDone), resp := .accepted }

/-! ## The BPE agent (R133) -/

/-- The frame completes. -/
def State.completeFrame (s : State) : State :=
  { s.devEnd with bpe := { s.devEnd.bpe with fstate := .idle } }.flag flagInstrEnd

/-- The BPE's completion step; nothing while it is not enabled. -/
def bpeStep (s : State) : State :=
  if s.bpe.fstate = .running ∧ s.bpe.stalled = false then
    if s.drawStall.1 then { s.drawStall.2 with bpe := { s.drawStall.2.bpe with stalled := true } }
    else s.drawStall.2.completeFrame
  else s

end Sys2Proof.Machine
end

