-- ==== Sys2Proof/Machine/Registers.lean ====
section
/-! DEFINITION. The register accesses that are no row of the opcode table: reads, the storage registers, SEQBUF, and the
writes that only refuse or do nothing (spec/10_state.md R22 to R52). -/

namespace Sys2Proof.Machine

/-- The value a register reads as (R22, R24 to R53). -/
def regValue (s : State) : ReadReg → Word
  | .ctrla => bitAt s.bpe.enable 1
  | .ctrlb => s.bpe.ctrlb
  | .baud => s.bpe.baud
  | .intenclr => s.bpe.inten
  | .intenset => s.bpe.inten
  | .intflag => s.bpe.intflag
  | .status => s.statusValue
  | .instraddr => s.bpe.instraddr
  | .instrctrl => s.bpe.instrctrl
  | .seqctrl => s.fcs.seqctrl.setWidth 32
  | .seqaddr => s.fcs.seqaddr
  | .seqlen => s.fcs.seqlen.setWidth 32
  | .seqparam => s.fcs.seqparam
  | .seqbudget => s.fcs.seqbudget
  | .seqstatus => s.seqstatusValue
  | .seqsr => s.fcs.seqsr.setWidth 32
  | .seqid => s.fcs.seqid
  | .crcctrl => bitAt s.crc.snoop 1
  | .crcdata => 0#32
  | .crcstate => s.crc.crcstate
  | .crcexpect => s.crc.crcexpect

/-- A register of the frame a write would change: refused while a command runs or a frame is in progress (R124). -/
def State.frameRegWrite (b : Bpe) (s : State) : State :=
  if s.fcs.busy then s.raiseFault .sequencerBusy
  else if s.bpe.fstate ≠ .idle then s.raiseFault .frameBusy
  else { s with bpe := b, resp := .accepted }

/-- An operand register of a command: refused while a command runs (R35 to R38). -/
def State.operandWrite (c : Fcs) (s : State) : State :=
  if s.fcs.busy then s.raiseFault .sequencerBusy else { s with fcs := c, resp := .accepted }

/-- A write of a storage register: reserved bits are ignored (R23). -/
def writeReg (r : WriteReg) (v : Word) (s : State) : State :=
  match r with
  | .ctrlb => { s with bpe := { s.bpe with ctrlb := v }, resp := .accepted }
  | .baud => { s with bpe := { s.bpe with baud := v }, resp := .accepted }
  | .instraddr => s.frameRegWrite { s.bpe with instraddr := v }
  | .instrctrl => s.frameRegWrite { s.bpe with instrctrl := v &&& instrctrlMask }
  | .seqaddr => s.operandWrite { s.fcs with seqaddr := v }
  | .seqlen => s.operandWrite { s.fcs with seqlen := v.extractLsb' 0 9 }
  | .seqparam => s.operandWrite { s.fcs with seqparam := v &&& seqparamMask }
  | .seqbudget => s.operandWrite { s.fcs with seqbudget := v &&& seqbudgetMask }

/-- A SEQBUF read (R42, R63). -/
def readBuf (n : AccessSize) (i : Nat) (s : State) : State :=
  if s.fcs.busy then s.raiseFault .sequencerBusy else s.answer (ofLeBytes (bufBytes s.seqbuf i n.bytes))

/-- A SEQBUF write (R42, R63). -/
def writeBuf (n : AccessSize) (i : Nat) (v : Word) (s : State) : State :=
  if s.fcs.busy then s.raiseFault .sequencerBusy
  else { s with seqbuf := bufSet s.seqbuf i (leBytes n.bytes v), resp := .accepted }

/-- A SEQCTRL write of a reserved command (R96), after the faults that come before it (R150). -/
def reservedCmd (s : State) : State :=
  if s.fcs.busy then s.raiseFault .sequencerBusy
  else if s.bpe.fstate ≠ .idle then s.raiseFault .frameBusy
  else s.raiseFault .illegalCommand

/-- The meaning of an access that no row of the table covers. -/
def execPlain (p : PlainOp) (s : State) : State :=
  match p with
  | .readReg r => s.answer (regValue s r)
  | .writeReg r v => writeReg r v s
  | .readBuf n i => readBuf n i s
  | .writeBuf n i v => writeBuf n i v s
  | .reservedCmd _ => reservedCmd s
  | .seqstatusIdle => s.accept

end Sys2Proof.Machine
end

