-- ==== Sys2Proof/Machine/Reset.lean ====
section
/-! DEFINITION. The software reset (R321) and the power-on reset (R320, R229). -/

namespace Sys2Proof.Machine

/-- What a software reset leaves of the BPE (R321): everything but the latched frame, which the rule does not list
(notes/assumptions/11.md). -/
def Bpe.softReset (b : Bpe) : Bpe := { Bpe.powerOn with fdesc := b.fdesc }

/-- What a software reset leaves of the FCS (R321): Device Mode, and `rbytes`, which the rule does not list
(notes/assumptions/11.md). -/
def Fcs.softReset (c : Fcs) : Fcs :=
  { Fcs.powerOn with quadact := c.quadact, addr4 := c.addr4, rbytes := c.rbytes }

/-- A frame cut short with chip select asserted leaves the device in an arbitrary state (R321, R133). -/
def State.cutFrame (s : State) : State := if s.bpe.csact then s.devCut else s

/-- The software reset (R321). -/
def State.softReset (s : State) : State :=
  { s.cutFrame with bpe := s.bpe.softReset, fcs := s.fcs.softReset, crc := Crc.powerOn, resp := .accepted }

/-- BPE.SWRST (R321): accepted in every state. -/
def execBpeSwrst (s : State) : Host.Outcome State Fault Refusal := .next s.softReset

/-- What a power-on reset of the QFE does to a host frame on the bus: a stalled one ends with `Dev.Havoc` (R133, R336);
with any other, or none, the device keeps its state (R320), and a frame on its pins is dropped without an end
(notes/assumptions/22.md). -/
def State.dropFrame (s : State) : State :=
  if s.bpe.stalled then s.devCut else { s with dev := { s.dev with cur := none } }

/-- The device at power-on (R202, R229), with its array kept; a power cycle abandons an operation in progress as a reset does
(notes/assumptions/19.md). -/
def State.devPowerOn (s : State) : State :=
  { s.nextDraw with dev := Dev.powerOn s.cfg (abandonedArr s.cfg s.draws s.dev) }

/-- The power-on reset (R320), with or without a power cycle of the device, which follows the end of a stalled frame
(notes/assumptions/22.md). SEQBUF takes arbitrary bytes (one draw). The fault record is never cleared (R10, R54;
notes/assumptions/25.md). -/
def State.powerOnReset (withDevice : Bool) (s : State) : State :=
  let t := if withDevice then s.dropFrame.devPowerOn else s.dropFrame
  { t.nextDraw with bpe := Bpe.powerOn, fcs := Fcs.powerOn, crc := Crc.powerOn,
                    seqbuf := bufOf (Config.freeByte t.draws), resp := .none }

end Sys2Proof.Machine
end

