-- ==== Sys2Proof/Machine/Sequencer.lean ====
section
/-! DEFINITION. The flash command sequencer: starting a command, the step of every command, the polls, the end of a
command (spec/41_sequencer.md). -/

namespace Sys2Proof.Machine

/-! ## Starting a command (R150) -/

/-- The code of a command (R95). -/
def Cmd.code : Cmd → BitVec 4
  | .reset => 1
  | .readJedecId => 2
  | .readStatus => 3
  | .writeEnable => 4
  | .enableQuadIo => 5
  | .sectorErase => 6
  | .pageProgram => 7
  | .highSpeedRead => 8
  | .waitReady => 9
  | .setDummyCycles => 10
  | .enter4Byte => 11
  | .exit4Byte => 12

/-- The commands that only variant A has (R96). -/
def Cmd.onlyA : Cmd → Bool
  | .reset => false
  | .readJedecId => false
  | .readStatus => false
  | .writeEnable => false
  | .enableQuadIo => false
  | .sectorErase => false
  | .pageProgram => false
  | .highSpeedRead => false
  | .waitReady => false
  | .setDummyCycles => true
  | .enter4Byte => true
  | .exit4Byte => true

/-- The FCS with a command started (R150). -/
def Fcs.start (c : Cmd) (f : Fcs) : Fcs :=
  { f with seqctrl := c.code, cmd := some c, busy := true, doneFlag := false, err := .none, failstep := .idle,
           step := .check, polls := 0#32 }

/-- A SEQCTRL write of a command (R150): the faults in its order, then the start. -/
def startCommand (c : Cmd) (s : State) : State :=
  if s.fcs.busy then s.raiseFault .sequencerBusy
  else if s.bpe.fstate ≠ .idle then s.raiseFault .frameBusy
  else if c.onlyA && variantBit s.cfg.variant then s.raiseFault .illegalCommand
  else { s with fcs := s.fcs.start c, resp := .accepted }

/-- SEQ.RESET (R165). -/
def execSeqReset (s : State) : Host.Outcome State Fault Refusal := .next (startCommand .reset s)

/-- SEQ.READ_JEDEC_ID (R167). -/
def execSeqReadJedecId (s : State) : Host.Outcome State Fault Refusal := .next (startCommand .readJedecId s)

/-- SEQ.READ_STATUS (R169). -/
def execSeqReadStatus (s : State) : Host.Outcome State Fault Refusal := .next (startCommand .readStatus s)

/-- SEQ.WRITE_ENABLE (R171). -/
def execSeqWriteEnable (s : State) : Host.Outcome State Fault Refusal := .next (startCommand .writeEnable s)

/-- SEQ.ENABLE_QUAD_IO (R175). -/
def execSeqEnableQuadIo (s : State) : Host.Outcome State Fault Refusal := .next (startCommand .enableQuadIo s)

/-- SEQ.SECTOR_ERASE (R177). -/
def execSeqSectorErase (s : State) : Host.Outcome State Fault Refusal := .next (startCommand .sectorErase s)

/-- SEQ.PAGE_PROGRAM (R179). -/
def execSeqPageProgram (s : State) : Host.Outcome State Fault Refusal := .next (startCommand .pageProgram s)

/-- SEQ.HIGH_SPEED_READ (R183). -/
def execSeqHighSpeedRead (s : State) : Host.Outcome State Fault Refusal := .next (startCommand .highSpeedRead s)

/-- SEQ.WAIT_READY (R185). -/
def execSeqWaitReady (s : State) : Host.Outcome State Fault Refusal := .next (startCommand .waitReady s)

/-- SEQ.SET_DUMMY_CYCLES (R187). -/
def execSeqSetDummyCycles (s : State) : Host.Outcome State Fault Refusal := .next (startCommand .setDummyCycles s)

/-- SEQ.ENTER_4BYTE (R189). -/
def execSeqEnter4Byte (s : State) : Host.Outcome State Fault Refusal := .next (startCommand .enter4Byte s)

/-- SEQ.EXIT_4BYTE (R190). -/
def execSeqExit4Byte (s : State) : Host.Outcome State Fault Refusal := .next (startCommand .exit4Byte s)

/-- SEQ.CLRDONE (R39): ignored while a command runs. -/
def execSeqClrDone (s : State) : Host.Outcome State Fault Refusal :=
  .next (if s.fcs.busy then s.accept
    else { s with fcs := { s.fcs with doneFlag := false, err := .none, failstep := .idle }, resp := .accepted })

/-! ## Ending a command and moving in it (R151, R158) -/

/-- The step that FAILSTEP records (R151). -/
def failstepOf (e : ErrCode) (st : SeqStep) : SeqStep := if e = .none then .idle else st

/-- `finish(e)` (R151). -/
def State.finish (e : ErrCode) (s : State) : State :=
  { s with fcs := { s.fcs with err := e, failstep := failstepOf e s.fcs.step, step := .idle, busy := false,
                               doneFlag := true } }.flag flagSeqDone

/-- `step <- st`. -/
def State.goto (st : SeqStep) (s : State) : State := { s with fcs := { s.fcs with step := st } }

/-- `step <- st ; enter_poll()` (R158). -/
def State.gotoPoll (st : SeqStep) (s : State) : State :=
  { s with fcs := { s.fcs with step := st, polls := 0#32, t0 := s.clk } }

/-! ## Frames of the FCS (R120, R153) -/

/-- A frame of the FCS was performed: its bytes are received, and fed to the CRC when they are snooped. `rbytes` is empty
after a frame that reads nothing (the model's choice, notes/assumptions/28.md). -/
def State.fcsPerform (f : BusFrame) (s : State) : State :=
  ({ s.perform f with fcs := { s.fcs with rbytes := s.frameBytes f } }).snoopBytes f.frame.kind (s.frameBytes f)

/-- `run F -> r`, then `k` with the bytes read; a BusTimeout ends the command, with the device untouched where the
engine is disabled and in an arbitrary state where the bus stalled (R120, R153). -/
def State.run (f : BusFrame) (k : List Byte → State → State) (s : State) : State :=
  if s.bpe.running = false then s.finish .busTimeout
  else if s.drawStall.1 then s.drawStall.2.havoc.finish .busTimeout
  else k (s.drawStall.2.frameBytes f) (s.drawStall.2.fcsPerform f)

/-- A frame without data. -/
def bareFrame (f : Frame) : BusFrame := { frame := f, out := [], nIn := 0 }

/-- A frame that sends data. -/
def sendFrame (f : Frame) (l : List Byte) : BusFrame := { frame := f, out := l, nIn := 0 }

/-- A frame that reads `n` bytes. -/
def readFrame (f : Frame) (n : Nat) : BusFrame := { frame := f, out := [], nIn := n }

/-- A received byte; byte `k` of a list that has it. -/
def rbyte (l : List Byte) (k : Nat) : Byte := l[k]?.getD 0#8

/-! ## Polling (R159) -/

/-- What a poll waits for. -/
inductive PollTarget
  | wel | wip
deriving DecidableEq, Repr

/-- The status byte shows what the poll waits for (R159). -/
def PollTarget.reached (p : Params) (sr : Byte) : PollTarget → Bool
  | .wel => sr.getLsbD p.welBit.val
  | .wip => !sr.getLsbD p.wipBit.val

/-- `exhausted()` (R159). -/
def exhausted (c : Fcs) (clk : Word) : Bool :=
  if c.budgetMs then decide (c.budgetValue ≤ (clk - c.t0).toNat) else decide (max c.budgetValue 1 ≤ c.polls.toNat)

/-- The bookkeeping of one status read of a poll (R159). `polls` counts modulo 2^32, which only a budget in milliseconds
can reach (R46, R161; the model's choice, notes/assumptions/26.md). -/
def State.countPoll (sr : Byte) (s : State) : State :=
  { s with fcs := { s.fcs with seqsr := sr, polls := s.fcs.polls + 1#32 } }

/-- What follows the status read of a poll. -/
def State.judgePoll (target : PollTarget) (next : State → State) (sr : Byte) (s : State) : State :=
  if target.reached s.cfg sr then next s
  else if exhausted s.fcs s.clk then s.finish .deviceNotReady
  else s

/-- `poll(target)` (R159); `next` is what follows success. -/
def State.poll (target : PollTarget) (next : State → State) (s : State) : State :=
  s.run (readFrame (fRdsr s) 1) fun r t => (t.countPoll (rbyte r 0)).judgePoll target next (rbyte r 0)

/-! ## The steps that commands share (R158) -/

/-- Step WREN. -/
def stepWren (s : State) : State := s.run (bareFrame (fWren s)) fun _ t => t.gotoPoll .pollWel

/-- Step POLL_WEL with MAIN next. -/
def stepPollWel (s : State) : State := s.poll .wel (State.goto .main)

/-- Step MAIN of a command whose one frame, without data, ends it. -/
def stepMainBare (f : Frame) (s : State) : State := s.run (bareFrame f) fun _ t => t.finish .none

/-! ## The commands -/

/-- RESET's second frame succeeded: Device Mode is single, 24-bit (R165). -/
def State.deviceModeReset (s : State) : State :=
  { s with fcs := { s.fcs with quadact := false, addr4 := false } }

/-- RESET (R165). -/
def stepReset (s : State) : State :=
  match s.fcs.step with
  | .idle => s
  | .check => s.goto .main
  | .wren => s
  | .pollWel => s
  | .main => s.run (bareFrame (fRsten s)) fun _ t => t.goto .main2
  | .main2 => s.run (bareFrame (fRst s)) fun _ t => t.deviceModeReset.finish .none
  | .pollWip => s

/-- The three identity bytes match one of the two profiles (R167, R168). -/
def idKnown (p : Params) (i : JedecId) : Bool := i == p.jedecA || i == p.jedecB

/-- The identity three received bytes are. -/
def idOf (r : List Byte) : JedecId := { mfr := rbyte r 0, typ := rbyte r 1, capid := rbyte r 2 }

/-- SEQID's value (R41, R167). -/
def idWord (i : JedecId) : Word :=
  i.mfr.setWidth 32 ||| (i.typ.setWidth 32 <<< 8) ||| (i.capid.setWidth 32 <<< 16)

/-- The identity is received (R167). -/
def State.identified (r : List Byte) (s : State) : State :=
  { s with fcs := { s.fcs with seqid := idWord (idOf r) } }.finish
    (if idKnown s.cfg (idOf r) then .none else .unsupported)

/-- READ_JEDEC_ID (R167). -/
def stepReadJedecId (s : State) : State :=
  match s.fcs.step with
  | .idle => s
  | .check => s.goto .main
  | .wren => s
  | .pollWel => s
  | .main => s.run (readFrame (fRdid s) 3) fun r t => t.identified r
  | .main2 => s
  | .pollWip => s

/-- SEQSR takes a status byte. -/
def State.setSr (b : Byte) (s : State) : State := { s with fcs := { s.fcs with seqsr := b } }

/-- READ_STATUS (R169). -/
def stepReadStatus (s : State) : State :=
  match s.fcs.step with
  | .idle => s
  | .check => s.goto .main
  | .wren => s
  | .pollWel => s
  | .main => s.run (readFrame (fRdsr s) 1) fun r t => (t.setSr (rbyte r 0)).finish .none
  | .main2 => s
  | .pollWip => s

/-- WRITE_ENABLE (R171). -/
def stepWriteEnable (s : State) : State :=
  match s.fcs.step with
  | .idle => s
  | .check => s.goto .wren
  | .wren => stepWren s
  | .pollWel => s.poll .wel fun t => t.finish .none
  | .main => s
  | .main2 => s
  | .pollWip => s

/-- Device Mode becomes quad, and the command succeeds (R175). -/
def State.quadEnabled (s : State) : State := { s with fcs := { s.fcs with quadact := true } }.finish .none

/-- ENABLE_QUAD_IO (R175, R176). -/
def stepEnableQuadIo (s : State) : State :=
  match s.fcs.step with
  | .idle => s
  | .check =>
    if s.fcs.quadact then s.finish .none
    else match s.cfg.variant with
      | .A => s.goto .wren
      | .B => s.goto .main
  | .wren => stepWren s
  | .pollWel => stepPollWel s
  | .main =>
    match s.cfg.variant with
    | .A => s.run (sendFrame (fWrevcr s) [s.cfg.ops.evcrQuad]) fun _ t => t.quadEnabled
    | .B => s.run (bareFrame (fEqio s)) fun _ t => t.quadEnabled
  | .main2 => s
  | .pollWip => s

/-- SECTOR_ERASE (R177). -/
def stepSectorErase (s : State) : State :=
  match s.fcs.step with
  | .idle => s
  | .check =>
    if inCapacity s.cfg s.fcs.addr4 s.fcs.seqaddr.toNat 1 then s.goto .wren else s.finish .capacityExceeded
  | .wren => stepWren s
  | .pollWel => stepPollWel s
  | .main => stepMainBare (fSe s) s
  | .main2 => s
  | .pollWip => s

/-- The operand check of PAGE_PROGRAM (R179, R180): length, capacity, straddle. -/
def checkProgram (p : Params) (c : Fcs) : ErrCode :=
  if c.seqlen.toNat < 1 ∨ p.pageSize < c.seqlen.toNat then .invalidParameter
  else if inCapacity p c.addr4 c.seqaddr.toNat c.seqlen.toNat = false then .capacityExceeded
  else if straddles p c.seqaddr.toNat c.seqlen.toNat then .invalidParameter
  else .none

/-- PAGE_PROGRAM (R179). -/
def stepPageProgram (s : State) : State :=
  match s.fcs.step with
  | .idle => s
  | .check => if checkProgram s.cfg s.fcs = .none then s.goto .wren else s.finish (checkProgram s.cfg s.fcs)
  | .wren => stepWren s
  | .pollWel => stepPollWel s
  | .main => s.run (sendFrame (fPp s) (bufBytes s.seqbuf 0 s.fcs.seqlen.toNat)) fun _ t => t.finish .none
  | .main2 => s
  | .pollWip => s

/-- The operand check of HIGH_SPEED_READ (R183): length, capacity, parameters. -/
def checkRead (p : Params) (c : Fcs) : ErrCode :=
  if c.seqlen.toNat < 1 ∨ 256 < c.seqlen.toNat then .invalidParameter
  else if inCapacity p c.addr4 c.seqaddr.toNat c.seqlen.toNat = false then .capacityExceeded
  else if paramsOk c.quadact c = false then .invalidParameter
  else .none

/-- The bytes read go to SEQBUF from offset 0 on (R183). -/
def State.fillBuf (r : List Byte) (s : State) : State := { s with seqbuf := bufSet s.seqbuf 0 r }

/-- HIGH_SPEED_READ (R183). -/
def stepHighSpeedRead (s : State) : State :=
  match s.fcs.step with
  | .idle => s
  | .check => if checkRead s.cfg s.fcs = .none then s.goto .main else s.finish (checkRead s.cfg s.fcs)
  | .wren => s
  | .pollWel => s
  | .main => s.run (readFrame (fRead s) s.fcs.seqlen.toNat) fun r t => (t.fillBuf r).finish .none
  | .main2 => s
  | .pollWip => s

/-- WAIT_READY (R185). -/
def stepWaitReady (s : State) : State :=
  match s.fcs.step with
  | .idle => s
  | .check => s.gotoPoll .pollWip
  | .wren => s
  | .pollWel => s
  | .main => s
  | .main2 => s
  | .pollWip => s.poll .wip fun t => t.finish .none

/-- SET_DUMMY_CYCLES (R187). -/
def stepSetDummyCycles (s : State) : State :=
  match s.fcs.step with
  | .idle => s
  | .check => s.goto .wren
  | .wren => stepWren s
  | .pollWel => stepPollWel s
  | .main => s.run (sendFrame (fWrvcr s) [vcrByte s]) fun _ t => t.finish .none
  | .main2 => s
  | .pollWip => s

/-- ADDR4 takes a value, and the command succeeds (R189, R190). -/
def State.addrModeSet (on : Bool) (s : State) : State := { s with fcs := { s.fcs with addr4 := on } }.finish .none

/-- ENTER_4BYTE (R189). -/
def stepEnter4Byte (s : State) : State :=
  match s.fcs.step with
  | .idle => s
  | .check => s.goto .wren
  | .wren => stepWren s
  | .pollWel => stepPollWel s
  | .main => s.run (bareFrame (fEn4b s)) fun _ t => t.addrModeSet true
  | .main2 => s
  | .pollWip => s

/-- EXIT_4BYTE (R190). -/
def stepExit4Byte (s : State) : State :=
  match s.fcs.step with
  | .idle => s
  | .check => s.goto .wren
  | .wren => stepWren s
  | .pollWel => stepPollWel s
  | .main => s.run (bareFrame (fEx4b s)) fun _ t => t.addrModeSet false
  | .main2 => s
  | .pollWip => s

/-- The step of a command. -/
def cmdStep (c : Cmd) (s : State) : State :=
  match c with
  | .reset => stepReset s
  | .readJedecId => stepReadJedecId s
  | .readStatus => stepReadStatus s
  | .writeEnable => stepWriteEnable s
  | .enableQuadIo => stepEnableQuadIo s
  | .sectorErase => stepSectorErase s
  | .pageProgram => stepPageProgram s
  | .highSpeedRead => stepHighSpeedRead s
  | .waitReady => stepWaitReady s
  | .setDummyCycles => stepSetDummyCycles s
  | .enter4Byte => stepEnter4Byte s
  | .exit4Byte => stepExit4Byte s

/-- The FCS agent's step (R153); nothing while no command runs. A step that a command does not have does nothing: no
run reaches one (notes/assumptions/20.md). -/
def fcsStep (s : State) : State :=
  if s.fcs.busy then
    match s.fcs.cmd with
    | none => s
    | some c => cmdStep c s
  else s

end Sys2Proof.Machine
end

