-- ==== Sys2Proof/Machine/Dispatch.lean ====
section
/-! DEFINITION. The dispatch: one arm per instruction, each one call of its meaning. -/

namespace Sys2Proof.Machine

def exec (i : Instr) (s : State) : Host.Outcome State Fault Refusal :=
  match i with
  | .bpeCmd d => Sys2Proof.Machine.execBpeCmd d s
  | .bpeRegRead d => Sys2Proof.Machine.execBpeRegRead d s
  | .bpeMemRead d => Sys2Proof.Machine.execBpeMemRead d s
  | .bpeRegWrite d => Sys2Proof.Machine.execBpeRegWrite d s
  | .bpeMemWrite d => Sys2Proof.Machine.execBpeMemWrite d s
  | .bpeFrame v => Sys2Proof.Machine.execBpeFrame v s
  | .bpeSync => Sys2Proof.Machine.execBpeSync s
  | .bpeLastXfer enable => Sys2Proof.Machine.execBpeLastXfer enable s
  | .bpeEnable enable => Sys2Proof.Machine.execBpeEnable enable s
  | .bpeSwrst => Sys2Proof.Machine.execBpeSwrst s
  | .bpeClrFlag error instrEnd seqDone => Sys2Proof.Machine.execBpeClrFlag error instrEnd seqDone s
  | .bpeIntenSet error instrEnd seqDone => Sys2Proof.Machine.execBpeIntenSet error instrEnd seqDone s
  | .bpeIntenClr error instrEnd seqDone => Sys2Proof.Machine.execBpeIntenClr error instrEnd seqDone s
  | .winRead n o => Sys2Proof.Machine.execWinRead n o s
  | .winWrite n o v => Sys2Proof.Machine.execWinWrite n o v s
  | .seqReset => Sys2Proof.Machine.execSeqReset s
  | .seqReadJedecId => Sys2Proof.Machine.execSeqReadJedecId s
  | .seqReadStatus => Sys2Proof.Machine.execSeqReadStatus s
  | .seqWriteEnable => Sys2Proof.Machine.execSeqWriteEnable s
  | .seqEnableQuadIo => Sys2Proof.Machine.execSeqEnableQuadIo s
  | .seqSectorErase => Sys2Proof.Machine.execSeqSectorErase s
  | .seqPageProgram => Sys2Proof.Machine.execSeqPageProgram s
  | .seqHighSpeedRead => Sys2Proof.Machine.execSeqHighSpeedRead s
  | .seqWaitReady => Sys2Proof.Machine.execSeqWaitReady s
  | .seqSetDummyCycles => Sys2Proof.Machine.execSeqSetDummyCycles s
  | .seqEnter4Byte => Sys2Proof.Machine.execSeqEnter4Byte s
  | .seqExit4Byte => Sys2Proof.Machine.execSeqExit4Byte s
  | .seqClrDone => Sys2Proof.Machine.execSeqClrDone s
  | .crcInit snoop => Sys2Proof.Machine.execCrcInit snoop s
  | .crcSnoop snoop => Sys2Proof.Machine.execCrcSnoop snoop s
  | .crcFeed8 v => Sys2Proof.Machine.execCrcFeed8 v s
  | .crcFeed16 v => Sys2Proof.Machine.execCrcFeed16 v s
  | .crcFeed32 v => Sys2Proof.Machine.execCrcFeed32 v s
  | .crcLoad v => Sys2Proof.Machine.execCrcLoad v s
  | .crcExpect v => Sys2Proof.Machine.execCrcExpect v s
  | .crcResult r => Sys2Proof.Machine.execCrcResult r s
  | .devWren b => Sys2Proof.Machine.execDevWren b s
  | .devRdsr b => Sys2Proof.Machine.execDevRdsr b s
  | .devRdid b => Sys2Proof.Machine.execDevRdid b s
  | .devRdidQ b => Sys2Proof.Machine.execDevRdidQ b s
  | .devSe b => Sys2Proof.Machine.execDevSe b s
  | .devPp b => Sys2Proof.Machine.execDevPp b s
  | .devRead111 b => Sys2Proof.Machine.execDevRead111 b s
  | .devRead112 b => Sys2Proof.Machine.execDevRead112 b s
  | .devRead114 b => Sys2Proof.Machine.execDevRead114 b s
  | .devRead122 b => Sys2Proof.Machine.execDevRead122 b s
  | .devRead144 b => Sys2Proof.Machine.execDevRead144 b s
  | .devRsten b => Sys2Proof.Machine.execDevRsten b s
  | .devRst b => Sys2Proof.Machine.execDevRst b s
  | .devEqio b => Sys2Proof.Machine.execDevEqio b s
  | .devWrevcr b => Sys2Proof.Machine.execDevWrevcr b s
  | .devWrvcr b => Sys2Proof.Machine.execDevWrvcr b s
  | .devEn4b b => Sys2Proof.Machine.execDevEn4b b s
  | .devEx4b b => Sys2Proof.Machine.execDevEx4b b s

end Sys2Proof.Machine
end

