-- ==== Sys2Proof/Machine/Fetch.lean ====
section
/-! DEFINITION. From an input of the machine to what the decoder reads: the two host address ranges (R60) and the flash
bus. -/

namespace Sys2Proof.Machine

/-- The size of the register space in bytes (R60). -/
def regSpaceSize : Nat := 0x200

/-- The access inside one of the QFE's two ranges; none where the address lies in neither (R60). Host addresses have 32
bits, and a range that passes 2^32 goes on at 0 (the model's choice, notes/assumptions/27.md). -/
def route (p : Params) (a : HostAccess) : Option HostTuple :=
  if (a.addr - p.qfeBase).toNat < regSpaceSize then
    some { dir := a.dir, size := a.size, space := .regs, off := a.addr - p.qfeBase, value := a.value }
  else if (a.addr - p.winBase).toNat < p.winSize then
    some { dir := a.dir, size := a.size, space := .window, off := a.addr - p.winBase, value := a.value }
  else none

/-- What an input is. -/
inductive Fetched
  /-- A wire form, decoded. -/
  | decoded (d : Decoded)
  /-- A power-on reset. -/
  | powerOn (withDevice : Bool)
  /-- A host access to an address that does not exist. -/
  | unmapped
deriving DecidableEq, Repr

/-- An input, decoded. -/
def fetch (p : Params) (i : Input) : Fetched :=
  match i with
  | .access a =>
    match route p a with
    | some h => .decoded (decode p.devOps (.host h))
    | none => .unmapped
  | .frame f => .decoded (decode p.devOps (.bus f))
  | .powerOn d => .powerOn d

/-- The base address of a space. -/
def spaceBase (p : Params) : Space → Word
  | .regs => p.qfeBase
  | .window => p.winBase

/-- The input that a wire form is. -/
def wireInput (p : Params) (w : Wire) : Input :=
  match w with
  | .host h => .access { dir := h.dir, size := h.size, addr := spaceBase p h.space + h.off, value := h.value }
  | .bus f => .frame f

end Sys2Proof.Machine
end

