-- ==== Sys2Proof/Machine/Step.lean ====
section
/-! DEFINITION. One step of the machine: the schedule names an agent, and it moves (R20, R69, R75). -/

namespace Sys2Proof.Machine

/-- The host step of an input: an instruction is executed, an access outside the table done, a refused one faults. -/
def deliver (x : Fetched) (s : State) : Host.Outcome State Fault Refusal :=
  match x with
  | .decoded (.instr i) => exec i s
  | .decoded (.plain p) => .next (execPlain p s)
  | .decoded (.refused r) => .next (s.raiseFault r)
  | .decoded (.unknownFrame f) => .next (busDeliver f s)
  | .powerOn d => .next (s.powerOnReset d)
  | .unmapped => .fault .unmappedAddress

/-- The host takes its next input; with none it does nothing (R310). -/
def hostStep (s : State) : Host.Outcome State Fault Refusal :=
  match s.inputs with
  | [] => .next s
  | i :: rest => deliver (fetch s.cfg i) { s with inputs := rest }

/-- One agent's step. -/
def agentStep (a : Agent) (s : State) : Host.Outcome State Fault Refusal :=
  match a with
  | .host => hostStep s
  | .bpe => .next (bpeStep s)
  | .fcs => .next (fcsStep s)
  | .device => .next (devStep s)
  | .clock => .next (clockStep s)

/-- One step: the agent whose turn it is, or a freely chosen one, moves. -/
def step (s : State) : Host.Outcome State Fault Refusal := agentStep s.nextAgent s.advance

/-- The state with the instruction of a table row's bits as its very next step (notes/assumptions/1.md and 6.md): the
host is scheduled first, and its next input is the row's access or frame. -/
def State.withFetchWord (s : State) (nbits w : Nat) : State :=
  match tableWire nbits w with
  | some x => { s with sched := .host :: s.sched, inputs := wireInput s.cfg x :: s.inputs }
  | none => s

end Sys2Proof.Machine
end

