-- ==== Sys2Proof/Machine/Transport.lean ====
section
/-! DEFINITION. The host's pseudo-instructions as programs of host accesses: the notation of R103, the source's Transport
operations (R104), the sequencer pseudo-instruction (R105), the boot sequence (R324) and the raw quad reset (R327). They
are software that uses the QFE: plain data, which the machine does not run by itself (notes/assumptions/23.md). -/

namespace Sys2Proof.Machine

/-- One line of a host program (R103). -/
inductive HostLine
  /-- `W32`, `W16`, `W8`. -/
  | write (n : AccessSize) (sp : Space) (off v : Word)
  /-- `R32`, `R16`, `R8`. -/
  | read (n : AccessSize) (sp : Space) (off : Word)
  /-- `POLL <reg>, <mask>, <want>, <N>, <label>`, the label being the host's error exit. -/
  | poll (off mask want : Word) (tries : Nat)
deriving DecidableEq, Repr

/-- The access tuple of a line that is one access (R103); a POLL repeats a 32-bit read. -/
def HostLine.tuple : HostLine → HostTuple
  | .write n sp off v => { dir := .write, size := n.bytes, space := sp, off := off, value := v }
  | .read n sp off => { dir := .read, size := n.bytes, space := sp, off := off, value := 0#32 }
  | .poll off _ _ _ => { dir := .read, size := 4, space := .regs, off := off, value := 0#32 }

/-- The machine input of a line. -/
def HostLine.input (p : Params) (l : HostLine) : Input := wireInput p (.host l.tuple)

/-- The condition that ends a POLL on a value read (R103). -/
def pollDone (mask want t : Word) : Bool := t &&& mask == want

/-- `W32 <reg>, <value>`. -/
def w32 (off v : Word) : HostLine := .write .b4 .regs off v

/-- The accesses of a copy, with `fuel` of them at most. -/
def copySteps (fuel o len : Nat) : List (Nat × AccessSize) :=
  match fuel with
  | 0 => []
  | k + 1 =>
    if len = 0 then []
    else if o % 4 = 0 ∧ 4 ≤ len then (o, .b4) :: copySteps k (o + 4) (len - 4)
    else (o, .b1) :: copySteps k (o + 1) (len - 1)

/-- The accesses of a copy of `len` bytes at offset `o`: 4-byte accesses only at multiples of 4, byte accesses
elsewhere (R68); each with its offset and size. -/
def copyPlan (o len : Nat) : List (Nat × AccessSize) := copySteps len o len

/-- The reads of `len` bytes at offset `o` of a space. -/
def readLines (sp : Space) (o len : Nat) : List HostLine :=
  (copyPlan o len).map fun x => .read x.2 sp (BitVec.ofNat 32 x.1)

/-- The writes of a byte list at offset `o` of a space. -/
def writeLines (sp : Space) (o : Nat) (l : List Byte) : List HostLine :=
  (copyPlan o l.length).map fun x =>
    .write x.2 sp (BitVec.ofNat 32 x.1) (ofLeBytes ((l.drop (x.1 - o)).take x.2.bytes))

/-! ## The Transport operations (R104) -/

/-- `WAITEND`. -/
def waitEnd (spin : Nat) : List HostLine := [.poll 0x01C#32 0x400#32 0x400#32 spin, w32 0x01C#32 0x400#32]

/-- `R32 INSTRFRAME -> _`. -/
def readBack : HostLine := .read .b4 .regs 0x038#32

/-- `W32 CTRLA, 0x01000002`. -/
def endTransfer : HostLine := w32 0x000#32 0x01000002#32

/-- `command(op, w)`. -/
def transportCommand (op : Byte) (w : BitVec 3) (spin : Nat) : List HostLine :=
  [w32 0x034#32 (op.setWidth 32), w32 0x038#32 (w.setWidth 32 ||| 0x10#32)] ++ waitEnd spin

/-- `command_with_address(op, w, addrlen, a)`. -/
def transportCommandAt (op : Byte) (w : BitVec 3) (addr32 : Bool) (a : Word) (spin : Nat) : List HostLine :=
  [w32 0x030#32 a, w32 0x034#32 (op.setWidth 32),
    w32 0x038#32 (w.setWidth 32 ||| 0x30#32 ||| bitAt addr32 10)] ++ waitEnd spin

/-- `read(op, w, dummy, buf[len])`. -/
def transportRead (op : Byte) (w : BitVec 3) (dummy : BitVec 4) (len spin : Nat) : List HostLine :=
  [w32 0x034#32 (op.setWidth 32), w32 0x038#32 (w.setWidth 32 ||| 0x90#32 ||| (dummy.setWidth 32 <<< 16)), readBack]
    ++ readLines .window 0 len ++ [endTransfer] ++ waitEnd spin

/-- `write(op, w, buf)`. -/
def transportWrite (op : Byte) (w : BitVec 3) (buf : List Byte) (spin : Nat) : List HostLine :=
  [w32 0x034#32 (op.setWidth 32), w32 0x038#32 (w.setWidth 32 ||| 0x2090#32), readBack]
    ++ writeLines .window 0 buf ++ [endTransfer] ++ waitEnd spin

/-- The option part of a memory descriptor: enable and `log2(bits) << 8`. -/
def optDescriptor : Option (BitVec 2 × Byte) → Word
  | none => 0#32
  | some (code, _) => 0x40#32 ||| (code.setWidth 32 <<< 8)

/-- INSTRCTRL with an opcode and an option value. -/
def optInstrctrl (op : Byte) : Option (BitVec 2 × Byte) → Word
  | none => op.setWidth 32
  | some (_, v) => op.setWidth 32 ||| (v.setWidth 32 <<< 16)

/-- How a memory operation reaches its bytes (R104): the address and kind bits of its descriptor, whether INSTRADDR gives
the address, and the window offset of its first byte. -/
structure MemoryPlan where
  bits : Word
  setsAddr : Bool
  start : Nat
deriving DecidableEq, Repr

/-- The memory kind (TFRTYPE bit 12) with window offsets as addresses where all `len` bytes at `a` lie in the window; for
other addresses the register kind with ADDREN = 1 and INSTRADDR = `a`, and window accesses from offset 0 on (R104,
R117). -/
def memoryPlan (p : Params) (addr32 : Bool) (a : Word) (len : Nat) : MemoryPlan :=
  if a.toNat + len ≤ p.winSize then { bits := 0x10B0#32 ||| bitAt addr32 10, setsAddr := false, start := a.toNat }
  else { bits := 0x00B0#32 ||| bitAt addr32 10, setsAddr := true, start := 0 }

/-- The write of INSTRADDR, if there is one; it comes first, as in `command_with_address` (notes/assumptions/31.md). -/
def addrLine (on : Bool) (a : Word) : List HostLine := if on then [w32 0x030#32 a] else []

/-- `memory_read(op, w, addrlen, a, opt, dummy, buf[len])`, the option being none or its length code and value. -/
def memoryRead (p : Params) (op : Byte) (w : BitVec 3) (addr32 : Bool) (a : Word) (opt : Option (BitVec 2 × Byte))
    (dummy : BitVec 4) (len spin : Nat) : List HostLine :=
  let m := memoryPlan p addr32 a len
  addrLine m.setsAddr a
    ++ [w32 0x034#32 (optInstrctrl op opt),
      w32 0x038#32 (w.setWidth 32 ||| m.bits ||| optDescriptor opt ||| (dummy.setWidth 32 <<< 16)), readBack]
    ++ readLines .window m.start len ++ [endTransfer] ++ waitEnd spin

/-- `memory_write(op, w, addrlen, a, buf)`, with the write direction in TFRTYPE bit 13; with no bytes INSTRADDR is
written first and no window access is made. -/
def memoryWrite (p : Params) (op : Byte) (w : BitVec 3) (addr32 : Bool) (a : Word) (buf : List Byte) (spin : Nat) :
    List HostLine :=
  let m := memoryPlan p addr32 a buf.length
  addrLine (m.setsAddr || buf.isEmpty) a
    ++ [w32 0x034#32 (op.setWidth 32), w32 0x038#32 (w.setWidth 32 ||| 0x2000#32 ||| m.bits), readBack]
    ++ writeLines .window m.start buf ++ [endTransfer] ++ waitEnd spin

/-! ## The sequencer pseudo-instruction (R105) -/

/-- The operands a `SEQ` line names. -/
structure SeqOperands where
  addr : Option Word := none
  len : Option Word := none
  param : Option Word := none
  budget : Option Word := none
deriving DecidableEq, Repr

/-- The write of an operand register, if the operand is given. -/
def operandLine (off : Word) (v : Option Word) : List HostLine := (v.map fun x => w32 off x).toList

/-- `SEQ <CMD>`: operands, command, the wait for BUSY = 0, the read of SEQSTATUS. -/
def seqLines (c : Cmd) (o : SeqOperands) (n : Nat) : List HostLine :=
  operandLine 0x084#32 o.addr ++ operandLine 0x088#32 o.len ++ operandLine 0x08C#32 o.param
    ++ operandLine 0x090#32 o.budget
    ++ [w32 0x080#32 (c.code.setWidth 32), .poll 0x094#32 0x1#32 0x0#32 n, .read .b4 .regs 0x094#32]

/-- The command succeeded: `s[6:4] = 0` of the value read from SEQSTATUS. -/
def seqSucceeded (s : Word) : Bool := s.extractLsb' 4 3 == 0#3

/-! ## Boot and recovery -/

/-- Steps 1, 3 and 4 of the boot sequence (R324). -/
def bootLines (n : Nat) : List HostLine :=
  [w32 0x000#32 0x00000002#32, w32 0x004#32 0x00000001#32] ++ seqLines .reset { } n ++ seqLines .readJedecId { } n

/-- The raw quad reset (R327): reset-enable and reset in 4-4-4, then RESET. -/
def quadRecoveryLines (t : OpTable) (spin n : Nat) : List HostLine :=
  transportCommand t.rsten 6#3 spin ++ transportCommand t.rst 6#3 spin ++ seqLines .reset { } n

end Sys2Proof.Machine
end

