-- ==== Sys2Proof/Machine/ObjectStore.lean ====
section
/-! DEFINITION. The object store as the contract of the host software that uses the QFE: the header, the CRCs, the write
path as a state machine over FCS commands, the read path, and the sector wrappers (spec/44_object_store.md). It is host
software, over any `FlashHost`; HostRun.lean runs it on the machine (notes/assumptions/23.md, 30.md). -/

namespace Sys2Proof.Machine

/-- The parameters of R260. -/
structure StoreParams where
  magic : Word
  objBase : Nat
  maxSector : Nat
  scratch : Nat
  budgetWel : Word
  budgetErase : Word
  budgetProg : Word
  rdParam : Word
deriving DecidableEq, Repr

/-- R260's constraints. -/
structure StoreParams.wf (q : StoreParams) : Prop where
  magic : q.magic ≠ 0xFFFFFFFF#32
  scratch_pos : 1 ≤ q.scratch
  scratch_le : q.scratch ≤ 256

/-- The error kinds of the object store (R276). -/
inductive StoreError
  | notFound | corrupt | capacityExceeded | invalidParameter | busTimeout | deviceNotReady | unsupported
deriving DecidableEq, Repr

/-- The error of a command that failed (R261, R276); none where it succeeded. -/
def storeErrorOf : ErrCode → Option StoreError
  | .none => none
  | .busTimeout => some .busTimeout
  | .deviceNotReady => some .deviceNotReady
  | .unsupported => some .unsupported
  | .capacityExceeded => some .capacityExceeded
  | .invalidParameter => some .invalidParameter

/-! ## The header (R262, R263) -/

/-- The object header's fields. -/
structure Header where
  magic : Word
  headerLength : BitVec 16
  flags : BitVec 16
  typeTag : Word
  version : Word
  payloadLength : Word
  payloadCrc : Word
  headerCrc : Word
deriving DecidableEq, Repr

/-- The size of a header in bytes. -/
def headerSize : Nat := 28

/-- The 28 bytes of a header, little-endian and packed (R262). -/
def Header.toBytes (h : Header) : List Byte :=
  leBytes 4 h.magic ++ leBytes 2 (h.headerLength.setWidth 32) ++ leBytes 2 (h.flags.setWidth 32)
    ++ leBytes 4 h.typeTag ++ leBytes 4 h.version ++ leBytes 4 h.payloadLength ++ leBytes 4 h.payloadCrc
    ++ leBytes 4 h.headerCrc

/-- A field of `n` bytes at offset `o` of a header's bytes. -/
def headerField (l : List Byte) (o n : Nat) : Word := ofLeBytes ((l.drop o).take n)

/-- The header that 28 bytes hold. -/
def Header.ofBytes (l : List Byte) : Header where
  magic := headerField l 0 4
  headerLength := (headerField l 4 2).setWidth 16
  flags := (headerField l 6 2).setWidth 16
  typeTag := headerField l 8 4
  version := headerField l 12 4
  payloadLength := headerField l 16 4
  payloadCrc := headerField l 20 4
  headerCrc := headerField l 24 4

/-- `header_crc`: the CRC of the header with that field zero (R263). -/
def Header.crc (h : Header) : Word := crc32 ({ h with headerCrc := 0#32 }).toBytes

/-- The header that a write builds in memory (R262, R266). -/
def buildHeader (q : StoreParams) (payload : List Byte) (typeTag version : Word) : Header :=
  let h : Header := { magic := q.magic, headerLength := 28#16, flags := 0#16, typeTag := typeTag, version := version,
                      payloadLength := BitVec.ofNat 32 payload.length, payloadCrc := crc32 payload,
                      headerCrc := 0#32 }
  { h with headerCrc := h.crc }

/-! ## Commands (R261) -/

/-- A flash access of the object store: one FCS command. -/
inductive FlashCall
  | erase (a : Nat) (budget : Word)
  | waitReady (budget : Word)
  | program (a : Nat) (l : List Byte) (budget : Word)
  | read (a n : Nat) (param : Word)
deriving DecidableEq, Repr

/-- The host program that runs a flash access's command to its end; SEQBUF lies at register offset 0x100 (R105, R261,
R268). -/
def FlashCall.lines (n : Nat) : FlashCall → List HostLine
  | .erase a b => seqLines .sectorErase { addr := some (BitVec.ofNat 32 a), budget := some b } n
  | .waitReady b => seqLines .waitReady { budget := some b } n
  | .program a l b =>
    writeLines .regs 0x100 l
      ++ seqLines .pageProgram
          { addr := some (BitVec.ofNat 32 a), len := some (BitVec.ofNat 32 l.length), budget := some b } n
  | .read a k q =>
    seqLines .highSpeedRead
      { addr := some (BitVec.ofNat 32 a), len := some (BitVec.ofNat 32 k), param := some q } n

/-- The host program that copies a successful read out of SEQBUF (R270, R274); the other accesses bring nothing. -/
def FlashCall.fetchLines : FlashCall → List HostLine
  | .erase _ _ => []
  | .waitReady _ => []
  | .program _ _ _ => []
  | .read _ k _ => readLines .regs 0x100 k

/-- What the host has after a flash access: the ERR of its command, and for a read the bytes it copied out of SEQBUF. -/
structure CallResult where
  err : ErrCode
  data : List Byte
deriving DecidableEq, Repr

/-- The means of the object store, over whatever `σ` it acts on: the flash accesses and the snooped check of a payload
(R261, R275). `Session.host` (HostRun.lean) is the machine's, `idealHost` that of R283's premise. -/
structure FlashHost (σ : Type) where
  /-- One flash access, run to completion. -/
  call : FlashCall → σ → CallResult × σ
  /-- CRC INIT and SNOOP, and CRCEXPECT set to a payload's CRC (R275). -/
  crcBegin : Word → σ → σ
  /-- CRCSTATUS.MATCH (R275). -/
  crcMatch : σ → Bool × σ

/-! ## The write path (R265 to R271) -/

/-- The states of a write (R265). -/
inductive WriteStage
  | idle | erasing (k n : Nat) | programmingHeader | programmingPayload | verifying | done
  | failed (e : StoreError)
deriving DecidableEq, Repr

/-- The preconditions of a write (R266); `n` is the payload's length. -/
def writeCheck (p : Params) (addr4 : Bool) (a n : Nat) : Option StoreError :=
  if n < 1 then some .invalidParameter
  else if inCapacity p addr4 a (headerSize + n) = false then some .capacityExceeded
  else none

/-- The sectors a write of `t` bytes at `a` erases, in increasing order (R267). -/
def sectorsToErase (p : Params) (a t : Nat) : List Nat :=
  let first := a / p.sectorSize
  (List.range ((a + t - 1) / p.sectorSize + 1 - first)).map fun i => first + i

/-- The chunks of a program, with `fuel` of them at most (R268). -/
def chunkSteps (page fuel a : Nat) (l : List Byte) : List (Nat × List Byte) :=
  match fuel with
  | 0 => []
  | k + 1 =>
    if l.isEmpty then []
    else
      let n := min l.length (page - a % page)
      (a, l.take n) :: chunkSteps page k (a + n) (l.drop n)

/-- The chunks of a program: none crosses a page (R268). -/
def chunks (page a : Nat) (l : List Byte) : List (Nat × List Byte) := chunkSteps page l.length a l

/-- The commands of `program(a, l)`, each with a wait (R268). -/
def programCalls (p : Params) (q : StoreParams) (a : Nat) (l : List Byte) : List FlashCall :=
  (chunks p.pageSize a l).flatMap fun c => [.program c.1 c.2 q.budgetWel, .waitReady q.budgetProg]

/-- The reads of `n` bytes at `a`, with `fuel` of them at most: each takes all that is left, up to `size` bytes, where
R270 and R274 ask for no more than that (the model's choice, notes/assumptions/30.md). -/
def readSteps (q : StoreParams) (size fuel a n : Nat) : List FlashCall :=
  match fuel with
  | 0 => []
  | k + 1 =>
    if n = 0 then []
    else .read a (min n size) q.rdParam :: readSteps q size k (a + min n size) (n - min n size)

/-- The reads of `n` bytes at `a` in pieces of `size` bytes, the last one of the rest (R270, R274). -/
def readCalls (q : StoreParams) (size a n : Nat) : List FlashCall := readSteps q size n a n

/-- The erase of sector `s` and its wait (R267). -/
def eraseCalls (p : Params) (q : StoreParams) (s : Nat) : List FlashCall :=
  [.erase (sectorBase p s) q.budgetWel, .waitReady q.budgetErase]

/-- Every command of a write that fails nowhere, each with the state it belongs to (R265 to R270). -/
def writeCalls (p : Params) (q : StoreParams) (a : Nat) (payload : List Byte) (typeTag version : Word) :
    List (WriteStage × FlashCall) :=
  let t := headerSize + payload.length
  let sectors := sectorsToErase p a t
  ((sectors.zipIdx.flatMap fun x =>
      (eraseCalls p q x.1).map fun c => (WriteStage.erasing (x.2 + 1) sectors.length, c))
    ++ (programCalls p q a (buildHeader q payload typeTag version).toBytes).map fun c =>
        (WriteStage.programmingHeader, c))
    ++ ((programCalls p q (a + headerSize) payload).map fun c => (WriteStage.programmingPayload, c))
    ++ (readCalls q 256 a t).map fun c => (WriteStage.verifying, c)

/-- A write in progress: its state, the commands still to be issued, each with the state it belongs to, and the bytes the
verification still expects (R265). -/
structure WriteRun where
  stage : WriteStage
  todo : List (WriteStage × FlashCall)
  expect : List Byte
deriving DecidableEq, Repr

/-- The write moves to `Failed`, and issues no further command (R271). The flash then holds what the commands issued so
far have made of it, where R271 leaves the covered range unspecified (the model's choice, notes/assumptions/33.md). -/
def WriteRun.fail (e : StoreError) (w : WriteRun) : WriteRun := { w with stage := .failed e, todo := [] }

/-- A write as it begins: in Idle with the whole plan, or `Failed` before any command (R266). -/
def writeStart (p : Params) (q : StoreParams) (addr4 : Bool) (a : Nat) (payload : List Byte) (typeTag version : Word) :
    WriteRun :=
  match writeCheck p addr4 a payload.length with
  | some e => { stage := .failed e, todo := [], expect := [] }
  | none =>
    { stage := .idle
      todo := writeCalls p q a payload typeTag version
      expect := (buildHeader q payload typeTag version).toBytes ++ payload }

/-- The end of a command: an error fails the write at once, and so does a read-back that differs from what was written
(R261, R270, R271; each chunk is compared as it arrives, notes/assumptions/30.md). -/
def WriteRun.ended (c : FlashCall) (r : CallResult) (w : WriteRun) : WriteRun :=
  match storeErrorOf r.err, c with
  | some e, _ => w.fail e
  | none, .erase _ _ => w
  | none, .waitReady _ => w
  | none, .program _ _ _ => w
  | none, .read _ n _ =>
    if r.data = w.expect.take n then { w with expect := w.expect.drop n } else w.fail .corrupt

/-- The write has no command left: it is Done, unless it failed (R271). -/
def WriteRun.close (w : WriteRun) : WriteRun :=
  match w.stage with
  | .failed _ => w
  | .idle => { w with stage := .done }
  | .erasing _ _ => { w with stage := .done }
  | .programmingHeader => { w with stage := .done }
  | .programmingPayload => { w with stage := .done }
  | .verifying => { w with stage := .done }
  | .done => w

/-- One step of the write's state machine (R265): the next command is issued in its state and runs to its end. -/
def WriteRun.next {σ : Type} (h : FlashHost σ) (w : WriteRun) (s : σ) : WriteRun × σ :=
  match w.todo with
  | [] => (w.close, s)
  | (st, c) :: rest => (WriteRun.ended c (h.call c s).1 { w with stage := st, todo := rest }, (h.call c s).2)

/-- `n` steps of the write's state machine. -/
def WriteRun.run {σ : Type} (h : FlashHost σ) (n : Nat) (w : WriteRun) (s : σ) : WriteRun × σ :=
  match n with
  | 0 => (w, s)
  | n + 1 => WriteRun.run h n (w.next h s).1 (w.next h s).2

/-- `write(a, payload, type_tag, version)`: the state it ends in (R265 to R271). -/
def writeObject {σ : Type} (h : FlashHost σ) (p : Params) (q : StoreParams) (addr4 : Bool) (a : Nat)
    (payload : List Byte) (typeTag version : Word) (s : σ) : WriteStage × σ :=
  let w := writeStart p q addr4 a payload typeTag version
  let x := w.run h (w.todo.length + 1) s
  (x.1.stage, x.2)

/-! ## The read path (R272 to R275) -/

/-- The precondition of a read (R272). -/
def readCheck (p : Params) (a : Nat) : Option StoreError :=
  if p.capacity < a + headerSize then some .capacityExceeded else none

/-- The 28 header bytes read as erased (R272). -/
def headerErased (l : List Byte) : Bool := l.all fun b => b == erasedByte

/-- The header fields a read checks before it trusts the header (R273). -/
def headerSound (q : StoreParams) (h : Header) : Bool :=
  h.magic == q.magic && h.headerLength == 28#16 && h.headerCrc == h.crc && decide (1 ≤ h.payloadLength.toNat)

/-- What a read makes of the 28 header bytes at `a`, with room for `cap` bytes (R272, R273). -/
def readHeader (p : Params) (q : StoreParams) (a cap : Nat) (l : List Byte) : Except StoreError Header :=
  let h := Header.ofBytes l
  if headerErased l then .error .notFound
  else if headerSound q h = false then .error .corrupt
  else if cap < h.payloadLength.toNat then .error .capacityExceeded
  else if p.capacity < a + headerSize + h.payloadLength.toNat then .error .capacityExceeded
  else .ok h

/-- How a read checks its payload: not at all, by computing its CRC, or by CRC snooping (R275). -/
inductive Verify
  | off | software | snooped
deriving DecidableEq, Repr

/-- The end of a read: its result, and the destination buffer. -/
structure ReadEnd where
  result : Except StoreError Header
  dest : List Byte

/-- The destination with a chunk copied to offset `k` (R274). -/
def destPut (dest : List Byte) (k : Nat) (l : List Byte) : List Byte :=
  dest.take k ++ l ++ dest.drop (k + l.length)

/-- The payload's chunks: each is copied to the destination before the next command; a failing command ends the read
(R274). -/
def readChunks {σ : Type} (h : FlashHost σ) (k : Nat) (dest : List Byte) (s : σ) :
    List FlashCall → Option StoreError × List Byte × σ
  | [] => (none, dest, s)
  | c :: rest =>
    let x := h.call c s
    match storeErrorOf x.1.err with
    | some e => (some e, dest, x.2)
    | none => readChunks h (k + x.1.data.length) (destPut dest k x.1.data) x.2 rest

/-- The payload's check once all of it is in the destination; only on request (R275). -/
def readVerify {σ : Type} (h : FlashHost σ) (hd : Header) (v : Verify) (dest : List Byte) (s : σ) : ReadEnd × σ :=
  match v with
  | .off => ({ result := .ok hd, dest := dest }, s)
  | .software =>
    ({ result := if crc32 (dest.take hd.payloadLength.toNat) = hd.payloadCrc then .ok hd else .error .corrupt
       dest := dest }, s)
  | .snooped =>
    ({ result := if (h.crcMatch s).1 then .ok hd else .error .corrupt, dest := dest }, (h.crcMatch s).2)

/-- The payload of a sound header: read in chunks of SCRATCH bytes from `a + 28` on, then checked (R274, R275). -/
def readBody {σ : Type} (h : FlashHost σ) (q : StoreParams) (a : Nat) (hd : Header) (v : Verify) (dest : List Byte)
    (s : σ) : ReadEnd × σ :=
  let s0 := if v = .snooped then h.crcBegin hd.payloadCrc s else s
  let x := readChunks h 0 dest s0 (readCalls q q.scratch (a + headerSize) hd.payloadLength.toNat)
  match x.1 with
  | some e => ({ result := .error e, dest := x.2.1 }, x.2.2)
  | none => readVerify h hd v x.2.1 x.2.2

/-- `read(a, dest[cap], verify)`, `cap` being the length of `dest`: every read starts from flash (R272 to R275, R279). -/
def readObject {σ : Type} (h : FlashHost σ) (p : Params) (q : StoreParams) (a : Nat) (dest : List Byte) (v : Verify)
    (s : σ) : ReadEnd × σ :=
  match readCheck p a with
  | some e => ({ result := .error e, dest := dest }, s)
  | none =>
    let x := h.call (.read a headerSize q.rdParam) s
    match storeErrorOf x.1.err with
    | some e => ({ result := .error e, dest := dest }, x.2)
    | none =>
      match readHeader p q a dest.length x.1.data with
      | .error e => ({ result := .error e, dest := dest }, x.2)
      | .ok hd => readBody h q a hd v dest x.2

/-! ## The sector wrappers (R277) -/

/-- The address of a logical sector, if it is in range. -/
def sectorAddress (p : Params) (q : StoreParams) (k : Nat) : Except StoreError Nat :=
  if q.maxSector < k then .error .capacityExceeded else .ok (q.objBase + k * p.sectorSize)

/-- `write_sector(k, ...)`. -/
def writeSector {σ : Type} (h : FlashHost σ) (p : Params) (q : StoreParams) (addr4 : Bool) (k : Nat)
    (payload : List Byte) (typeTag version : Word) (s : σ) : WriteStage × σ :=
  match sectorAddress p q k with
  | .error e => (.failed e, s)
  | .ok a => writeObject h p q addr4 a payload typeTag version s

/-- `read_sector(k, ...)`. -/
def readSector {σ : Type} (h : FlashHost σ) (p : Params) (q : StoreParams) (k : Nat) (dest : List Byte) (v : Verify)
    (s : σ) : ReadEnd × σ :=
  match sectorAddress p q k with
  | .error e => ({ result := .error e, dest := dest }, s)
  | .ok a => readObject h p q a dest v s

end Sys2Proof.Machine
end

