-- ==== Sys2Proof/Safety.lean ====
section
/-! DEFINITION. What counts as a sound state: the invariant of the machine, as the spec's rules keep it, and the
correctness condition between the QFE and the device (R124, R164, R232, R326). -/

namespace Sys2Proof.Machine

/-- The steps a command goes through on a variant (R194). -/
def legalStep (v : Variant) (c : Cmd) (st : SeqStep) : Bool :=
  match c with
  | .reset => st == .check || st == .main || st == .main2
  | .readJedecId => st == .check || st == .main
  | .readStatus => st == .check || st == .main
  | .writeEnable => st == .check || st == .wren || st == .pollWel
  | .enableQuadIo => st == .check || st == .main || (!variantBit v && (st == .wren || st == .pollWel))
  | .sectorErase => st == .check || st == .wren || st == .pollWel || st == .main
  | .pageProgram => st == .check || st == .wren || st == .pollWel || st == .main
  | .highSpeedRead => st == .check || st == .main
  | .waitReady => st == .check || st == .pollWip
  | .setDummyCycles => !variantBit v && (st == .check || st == .wren || st == .pollWel || st == .main)
  | .enter4Byte => !variantBit v && (st == .check || st == .wren || st == .pollWel || st == .main)
  | .exit4Byte => !variantBit v && (st == .check || st == .wren || st == .pollWel || st == .main)

/-- A running command is at one of its steps. -/
def Fcs.commandLegal (v : Variant) (c : Fcs) : Bool :=
  match c.cmd with
  | none => false
  | some k => legalStep v k c.step

/-- A frame that is armed or open is a data frame, and a frame that runs is latched (R33, R113). -/
def Bpe.frameLatched (b : Bpe) : Bool :=
  match b.fstate, b.fdesc with
  | .idle, _ => true
  | _, none => false
  | .running, some _ => true
  | _, some f => f.kind != .cmd

/-- The device's record of a frame on the bus is one a device of its variant makes. -/
def Dev.planLegal (v : Variant) (d : Dev) : Bool :=
  match d.cur with
  | none => true
  | some c => !variantBit v || c.plan != .en4b

/-- The invariant that every step keeps. -/
structure State.Inv (s : State) : Prop where
  /-- The flash array is in its canonical form. -/
  arr : Memory.wf s.cfg.capacity s.dev.arr
  /-- Reserved bits read as 0 (R23, R27, R28, R31, R37, R38, R41). -/
  inten : s.bpe.inten &&& ~~~intMask = 0#32
  intflag : s.bpe.intflag &&& ~~~intMask = 0#32
  instrctrl : s.bpe.instrctrl &&& ~~~instrctrlMask = 0#32
  seqparam : s.fcs.seqparam &&& ~~~seqparamMask = 0#32
  seqbudget : s.fcs.seqbudget &&& ~~~seqbudgetMask = 0#32
  seqid : s.fcs.seqid &&& 0xFF000000#32 = 0#32
  /-- A frame in progress is latched (R33). -/
  latched : s.bpe.frameLatched = true
  /-- Chip select is asserted exactly while the device holds a frame (R29). -/
  selected : s.dev.cur.isSome = s.bpe.csact
  /-- Only a running frame can be stalled (R133). -/
  stalled : s.bpe.stalled = true → s.bpe.fstate = .running
  /-- Host frames and commands never overlap (R124, R164). -/
  exclusive : s.fcs.busy = true → s.bpe.fstate = .idle
  /-- A running command is at one of its steps (R194); otherwise the step is IDLE (R21). -/
  running : s.fcs.busy = true → s.fcs.commandLegal s.cfg.variant = true
  resting : s.fcs.busy = false → s.fcs.step = .idle
  /-- DONE shows the end of a command (R332). -/
  ended : s.fcs.busy = true → s.fcs.doneFlag = false
  /-- FAILSTEP is 0 exactly where ERR = 0 (R39). -/
  failed : s.fcs.failstep = .idle ↔ s.fcs.err = .none
  /-- On variant B ADDR4 is always 0 (R44), and so is the device's (R210). -/
  addr4 : s.cfg.variant = .B → s.fcs.addr4 = false
  devAddr4 : s.cfg.devVariant = .B → s.dev.addr4 = false
  devPlan : s.dev.planLegal s.cfg.devVariant = true
  /-- The fault record is a set (R54). -/
  faults : s.faults.Nodup

/-- Device Mode equals the device's modes (R230, R232, R326). -/
def State.modesAgree (s : State) : Prop := s.fcs.quadact = s.dev.qpi ∧ s.fcs.addr4 = s.dev.addr4

/-- R232: the device is the one the QFE was built for, and Device Mode is true. -/
structure State.matched (s : State) : Prop where
  variant : s.cfg.devVariant = s.cfg.variant
  ops : s.cfg.devOps = s.cfg.ops
  identity : s.cfg.devId = s.cfg.jedecA ∨ s.cfg.devId = s.cfg.jedecB
  modes : s.modesAgree

/-! ## Words that statements use -/

/-- The command `c` runs and is at step `st`. -/
def State.atStep (s : State) (c : Cmd) (st : SeqStep) : Prop :=
  s.fcs.busy = true ∧ s.fcs.cmd = some c ∧ s.fcs.step = st

/-- A frame of the FCS would be performed now: the engine runs and the bus does not stall (R120). -/
def State.busReady (s : State) : Prop := s.bpe.running = true ∧ s.drawStall.1 = false

/-- The device is at rest: no frame on the bus and no internal operation. -/
def Dev.atRest (d : Dev) : Prop := d.cur = none ∧ d.pending = none

/-- A frame body moves no data byte. -/
def bodyEmpty (b : BusBody) : Bool :=
  (!b.shape.kind.isRead || b.nIn == 0) && (!b.shape.kind.isWrite || b.out.isEmpty)

/-- The device after a frame that changes nothing of it but the reset-enable record (R211). -/
def Dev.afterFrame (d : Dev) : Dev := { d with rsten := false, cur := none }

/-- The rows of R213 whose opcode is a read (R212; notes/assumptions/13.md). -/
def DevOp.isRead : DevOp → Bool
  | .wren => false
  | .rdsr => true
  | .rdid => true
  | .se => false
  | .pp => false
  | .read _ => true
  | .rsten => false
  | .rst => false
  | .eqio => false
  | .wrevcr => false
  | .wrvcr => false
  | .en4b => false
  | .ex4b => false

/-- A frame that moves `n` data bytes has the shape that R213's table gives a row (notes/assumptions/12.md, 13.md). -/
def rightShape (p : Params) (d : Dev) (f : Frame) (n : Nat) : DevOp → Bool
  | .wren => commandShape d false 0#4 f && n == 0
  | .rdsr => commandShape d false (if d.qpi then p.devOps.dummyRdsrQ else 0#4) f && f.kind.isRead
  | .rdid => commandShape d false (if d.qpi then p.devOps.dummyRdidQ else 0#4) f && f.kind.isRead
  | .se => commandShape d true 0#4 f && n == 0
  | .pp => commandShape d true 0#4 f && f.kind.isWrite
  | .read w => f.width == w && f.addrEn && f.addr32 == d.addr4 && f.kind.isRead
  | .rsten => commandShape d false 0#4 f && n == 0
  | .rst => commandShape d false 0#4 f && n == 0
  | .eqio => commandShape d false 0#4 f && n == 0
  | .wrevcr => commandShape d false 0#4 f && f.kind.isWrite && n == 1
  | .wrvcr => commandShape d false 0#4 f && f.kind.isWrite && n == 1
  | .en4b => commandShape d false 0#4 f && n == 0
  | .ex4b => commandShape d false 0#4 f && n == 0

/-- `k` steps of the FCS, each after whatever `env` lets the rest of the machine do first. -/
def fcsRun (env : Nat → State → State) (k : Nat) (s : State) : State :=
  match k with
  | 0 => s
  | k + 1 => fcsStep (env k (fcsRun env k s))

end Sys2Proof.Machine
end

