-- ==== Sys2Proof/Certificates/Slice0/Obligations.lean ====
section
/-! DEFINITION. The statements for the provers, each from the rules of spec/ that its docstring and OBLIGATIONS.json
cite. -/

open Sys2Proof Sys2Proof.Machine

/-- For every opcode table whose bytes are distinct and every well-formed instruction, with every operand at every
value its encoding admits, the decoder reads from the instruction's encoding that instruction. (30_encoding.md R86,
R90, R95, R99, R213) -/
def Obligations.DecodeOfEncode : Prop :=
  ∀ (t : OpTable) (i : Instr), OpTable.wf t → i.wf = true → decode t (encode t i) = .instr i

/-- One word of each family, written out from its encoding: a 4-4-4 memory-read descriptor, a LASTXFER write of CTRLA,
a SEQCTRL write of 6, a 16-bit CRCDATA write, a one-byte window store, and a bus frame with opcode 06. (30_encoding.md
R86, R95, R99, R100) -/
def Obligations.DecodeWords : Prop :=
  decode OpTable.defaultB (regWrite 0x038#32 0x000610B6#32)
      = .instr (.bpeMemRead { width := 6#3, addrEn := true, optEn := false, optLen := 0#2, addrLen := false,
                              dummy := 6#4 })
    ∧ decode OpTable.defaultB (regWrite 0x000#32 0x01000002#32) = .instr (.bpeLastXfer true)
    ∧ decode OpTable.defaultB (regWrite 0x080#32 0x00000006#32) = .instr .seqSectorErase
    ∧ decode OpTable.defaultB (.host { dir := .write, size := 2, space := .regs, off := 0x0C4#32, value := 0x3231#32 })
      = .instr (.crcFeed16 0x3231#16)
    ∧ decode OpTable.defaultB (.host { dir := .write, size := 1, space := .window, off := 0x10#32, value := 0xAA#32 })
      = .instr (.winWrite .b1 0x10#32 0xAA#32)
    ∧ decode OpTable.defaultB (.bus (BusBody.zero.withOpcode 0x06#8)) = .instr (.devWren BusBody.zero)

/-- A descriptor value is valid exactly when it is the word of one of the five rows with some fields, its WIDTH is not
7, and an option it enables fills whole cycles of the address lanes. (30_encoding.md R86, R92, R93, R101) -/
def Obligations.DescriptorRows : Prop :=
  ∀ v : Word, descValid v = true ↔
    ∃ (k : Kind) (d : DescFields), v = d.toWord k ∧ d.width ≠ 7#3 ∧
      (d.optEn = true → 2 ^ d.optLen.toNat % (widthOf d.width).addrLanes = 0)

/-- The agent that moves is the schedule's first. When the host's turn comes and its next input decodes to an
instruction, the step is the execution of that instruction on the state with the input and the turn used up; so it is
with an access that is no row of the table, a frame that no row has, and a power-on reset; a host with no input does
nothing. When the turn is the BPE's, the FCS's, the device's or the clock's, the step is that agent's move, and the
clock's adds 1 modulo 2^32. An access at QFE_BASE + off with off below 512 goes to the register space at off, one at
WIN_BASE + off with off below WIN_SIZE to the window at off, and either is decoded as its access tuple; a bus frame is
decoded by its opcode. That the register space comes first where the two overlap, and that an access in neither ends
the run, is the model's choice (notes/assumptions/21.md), as are the schedule (5.md) and addresses modulo 2^32
(27.md). (10_state.md R20, 20_memory.md R60, R69, R75, 42_flash_commands.md R231, 60_exceptions.md R305, R310,
notes/assumptions/5.md, notes/assumptions/21.md, notes/assumptions/27.md) -/
def Obligations.StepRunsInstruction : Prop :=
  (∀ (s : State) (x : Input) (rest : List Input), s.nextAgent = .host → s.inputs = x :: rest →
    let u : State := { s.advance with inputs := rest }
    (∀ i, fetch s.cfg x = .decoded (.instr i) → step s = exec i u) ∧
    (∀ op, fetch s.cfg x = .decoded (.plain op) → step s = .next (execPlain op u)) ∧
    (∀ f, fetch s.cfg x = .decoded (.unknownFrame f) → step s = .next (busDeliver f u)) ∧
    (∀ d, x = .powerOn d → step s = .next (u.powerOnReset d)) ∧
    (fetch s.cfg x = .unmapped → step s = .fault .unmappedAddress)) ∧
  (∀ s : State,
    (s.nextAgent = .host → s.inputs = [] → step s = .next s.advance) ∧
    (s.nextAgent = .bpe → step s = .next (bpeStep s.advance)) ∧
    (s.nextAgent = .fcs → step s = .next (fcsStep s.advance)) ∧
    (s.nextAgent = .device → step s = .next (devStep s.advance)) ∧
    (s.nextAgent = .clock → step s = .next { s.advance with clk := s.clk + 1#32 }) ∧
    (∀ a rest, s.sched = a :: rest → s.nextAgent = a ∧ s.advance = { s with sched := rest }) ∧
    (s.sched = [] → s.advance = { s with draws := s.draws + 1 })) ∧
  (∀ (p : Params) (dir : AccessDir) (size : Nat) (off value : Word),
    let access (base : Word) : Input := .access { dir := dir, size := size, addr := base + off, value := value }
    let tuple (sp : Space) : HostTuple := { dir := dir, size := size, space := sp, off := off, value := value }
    let inRegs (addr : Word) : Prop := (addr - p.qfeBase).toNat < 512
    (off.toNat < 512 → fetch p (access p.qfeBase) = .decoded (decodeHost (tuple .regs))) ∧
    (off.toNat < p.winSize → ¬ inRegs (p.winBase + off) →
      fetch p (access p.winBase) = .decoded (decodeHost (tuple .window))) ∧
    (¬ off.toNat < p.winSize → ¬ inRegs (p.winBase + off) → fetch p (access p.winBase) = .unmapped)) ∧
  (∀ (p : Params) (f : BusFrame), fetch p (.frame f) = .decoded (match decodeBus p.devOps f with
    | some i => .instr i
    | none => .unknownFrame f))

/-- When the host's next input is an access that the decoder refuses, the step records its reason and answers with a
bus error, and every other part of the state is as the step found it. The decoder refuses exactly: a fetch from the
window; a width that the place does not take; a misaligned access of SEQBUF, or of CRCDATA past its first byte; an
offset that no register has; a write of a read-only register; the first of these in R293's order. That an offset
inside a register counts as one that no register has, and that a fetch from the register block counts as a read, are
the model's choices (notes/assumptions/7.md, 8.md). (60_exceptions.md R290, R291, R293, 10_state.md R22, R23, R54,
20_memory.md R67, R74, notes/assumptions/7.md, notes/assumptions/8.md) -/
def Obligations.RefusedAccessFaults : Prop :=
  (∀ (s : State) (x : Input) (rest : List Input) (r : FaultReason), s.nextAgent = .host → s.inputs = x :: rest →
    fetch s.cfg x = .decoded (.refused r) →
    step s = .next { s.advance with inputs := rest, resp := .busError r,
                                    faults := if r ∈ s.faults then s.faults else s.faults ++ [r] }) ∧
  (∀ (h : HostTuple) (r : FaultReason),
    let off := h.off.toNat
    let defined : List Nat := [0x000, 0x004, 0x008, 0x014, 0x018, 0x01C, 0x020, 0x030, 0x034, 0x038, 0x080, 0x084, 0x088,
      0x08C, 0x090, 0x094, 0x098, 0x09C, 0x0C0, 0x0C8, 0x0CC, 0x0D0, 0x0D4]
    let readOnly : List Nat := [0x020, 0x098, 0x09C, 0x0CC, 0x0D4]
    let narrow : Prop := h.size = 1 ∨ h.size = 2 ∨ h.size = 4
    decodeHost h = .refused r ↔
      match h.space with
      | .window => (h.dir = .fetch ∧ r = .fetchFromWindow) ∨ (h.dir ≠ .fetch ∧ ¬ narrow ∧ r = .badWidth)
      | .regs =>
        if 0x100 ≤ off then
          (¬ narrow ∧ r = .badWidth) ∨ (narrow ∧ ¬ (off % h.size = 0 ∧ off + h.size ≤ 0x200) ∧ r = .misaligned)
        else if 0x0C4 ≤ off ∧ off ≤ 0x0C7 then
          (¬ narrow ∧ r = .badWidth) ∨ (narrow ∧ off ≠ 0x0C4 ∧ r = .misaligned)
        else
          (h.size ≠ 4 ∧ r = .badWidth) ∨ (h.size = 4 ∧ off ∉ defined ∧ r = .reservedOffset) ∨
            (h.size = 4 ∧ h.dir = .write ∧ off ∈ readOnly ∧ r = .readOnlyWrite))

/-- The state after power-on reset meets the invariant of sound states. (70_reset_and_hazards.md R320, 10_state.md
R22) -/
def Obligations.InvReset : Prop :=
  State.reset.Inv

/-- From every state that meets the invariant, a step that answers a next state gives a state that meets it: the flash
array stays in canonical form, reserved bits stay 0, chip select is asserted exactly while the device holds a frame,
host frames and commands never overlap, a running command is at one of its steps, ADDR4 stays 0 on variant B, and the
fault record stays a set. That a variant-B device's own address mode stays 24-bit also after Dev.Havoc (R210), the
clauses devAddr4 and devPlan, is the model's reading (notes/assumptions/17.md). (40_bus_engine.md R124,
41_sequencer.md R164, R194, 10_state.md R21, R23, R39, R44, R54, 42_flash_commands.md R210, notes/assumptions/17.md)
-/
def Obligations.InvKept : Prop :=
  ∀ s t : State, s.Inv → step s = .next t → t.Inv

/-- A step leaves QUADACT and ADDR4 as they were, or it is the FCS performing a successful last step of
ENABLE_QUAD_IO, RESET, ENTER_4BYTE or EXIT_4BYTE, with the value each gives, or it is a power-on reset. (R191) -/
def Obligations.DeviceModeWriters : Prop :=
  ∀ s t : State, step s = .next t →
    (t.fcs.quadact = s.fcs.quadact ∧ t.fcs.addr4 = s.fcs.addr4) ∨
    (s.nextAgent = .fcs ∧ s.advance.busReady ∧ t.fcs.err = .none ∧
      ((s.atStep .enableQuadIo .main ∧ t.fcs.quadact = true ∧ t.fcs.addr4 = s.fcs.addr4) ∨
       (s.atStep .reset .main2 ∧ t.fcs.quadact = false ∧ t.fcs.addr4 = false) ∨
       (s.atStep .enter4Byte .main ∧ t.fcs.quadact = s.fcs.quadact ∧ t.fcs.addr4 = true) ∨
       (s.atStep .exit4Byte .main ∧ t.fcs.quadact = s.fcs.quadact ∧ t.fcs.addr4 = false))) ∨
    (s.nextAgent = .host ∧ (∃ d rest, s.inputs = .powerOn d :: rest) ∧ t.fcs.quadact = false ∧ t.fcs.addr4 = false)

/-- INIT seeds the state and sets SNOOP, SNOOP alone only sets SNOOP, LOAD and EXPECT store their operand, RESULT
answers the complemented state or the match bit; nothing else of the machine changes but the answer to the host.
(43_crc32.md R240, R242, R243, R244, R245) -/
def Obligations.CrcControlRows : Prop :=
  ∀ (s : State) (b : Bool) (v : Word),
    exec (.crcInit b) s
      = .next { s with crc := { s.crc with crcstate := 0xFFFFFFFF#32, snoop := b }, resp := .accepted } ∧
    exec (.crcSnoop b) s = .next { s with crc := { s.crc with snoop := b }, resp := .accepted } ∧
    exec (.crcLoad v) s = .next { s with crc := { s.crc with crcstate := v }, resp := .accepted } ∧
    exec (.crcExpect v) s = .next { s with crc := { s.crc with crcexpect := v }, resp := .accepted } ∧
    exec (.crcResult .crcresult) s = .next { s with resp := .data (s.crc.crcstate ^^^ 0xFFFFFFFF#32) } ∧
    exec (.crcResult .crcstatus) s
      = .next { s with resp := .data (if s.crc.crcstate ^^^ 0xFFFFFFFF#32 = s.crc.crcexpect then 1#32 else 0#32) }

/-- FEED8, FEED16 and FEED32 put the bytes of the value through crc_byte one after the other, least significant byte
first, and change nothing else but the answer to the host. (43_crc32.md R241, R246) -/
def Obligations.CrcFeedRows : Prop :=
  ∀ (s : State) (a : BitVec 8) (b : BitVec 16) (c : BitVec 32),
    exec (.crcFeed8 a) s
      = .next { s with crc := { s.crc with crcstate := crcByte s.crc.crcstate a }, resp := .accepted } ∧
    exec (.crcFeed16 b) s
      = .next { s with crc := { s.crc with crcstate :=
          (crcByte (crcByte s.crc.crcstate (b.extractLsb' 0 8)) (b.extractLsb' 8 8)) }, resp := .accepted } ∧
    exec (.crcFeed32 c) s
      = .next { s with crc := { s.crc with crcstate :=
          (crcByte (crcByte (crcByte (crcByte s.crc.crcstate (c.extractLsb' 0 8)) (c.extractLsb' 8 8))
            (c.extractLsb' 16 8)) (c.extractLsb' 24 8)) }, resp := .accepted }

/-- The byte update xors the byte into the low bits and eight times shifts right by one, with EDB88320 xored in where
the bit shifted out was 1; CRC32 folds it over the bytes from all ones and complements. CRC32 of the empty message is
0, and of the nine bytes 31 to 39 it is CBF43926. (R246, R247) -/
def Obligations.CrcCheckValues : Prop :=
  (∀ (s : Word) (b : Byte), crcByte s b = (List.range 8).foldl
    (fun (x : Word) (_ : Nat) => if x.getLsbD 0 then (x >>> 1) ^^^ 0xEDB88320#32 else x >>> 1) (s ^^^ b.setWidth 32)) ∧
  (∀ m : List Byte, crc32 m = m.foldl crcByte 0xFFFFFFFF#32 ^^^ 0xFFFFFFFF#32) ∧
  crc32 [] = 0x00000000#32 ∧
  crc32 [0x31#8, 0x32#8, 0x33#8, 0x34#8, 0x35#8, 0x36#8, 0x37#8, 0x38#8, 0x39#8] = 0xCBF43926#32

/-- Two different messages of equal length whose differing bits all lie within 32 consecutive bits, the bits of each
byte taken least significant first, have different CRCs; a single-bit error is such a change, and so is a burst that
touches five bytes. (43_crc32.md R248, R246) -/
def Obligations.CrcDetectsShortBurst : Prop :=
  ∀ (m m' : List Byte) (k : Nat),
    let bit (l : List Byte) (i : Nat) : Bool := (l[i / 8]?.getD 0#8).getLsbD (i % 8)
    m.length = m'.length → m ≠ m' → (∀ i, bit m i ≠ bit m' i → k ≤ i ∧ i < k + 32) → crc32 m ≠ crc32 m'

/-- With no command running, no frame in progress and the engine enabled in memory mode, BPE.CMD with a valid
descriptor stores it, latches the frame, and the device receives the frame with the address INSTRADDR; the frame runs
and nothing else changes. That faddr is not written when a CMD frame starts is the model's reading
(notes/assumptions/11.md). (40_bus_engine.md R113, R114, R117, notes/assumptions/11.md) -/
def Obligations.CmdFrameStarts : Prop :=
  ∀ (d : DescFields) (s : State), s.fcs.busy = false → s.bpe.fstate = .idle → s.bpe.enable = true →
    s.bpe.ctrlb.getLsbD 0 = true → descValid (d.toWord .cmd) = true →
    exec (.bpeCmd d) s = .next { s with
      bpe := { s.bpe with instrframe := d.toWord .cmd, syncPending := true, fstate := .running,
                          fdesc := some (assemble (d.toWord .cmd) s.bpe.instrctrl 0#32) }
      dev := { s.dev with cur := (some
        { frame := assemble (d.toWord .cmd) s.bpe.instrctrl s.bpe.instraddr
          plan := devPlan s.cfg s.dev (assemble (d.toWord .cmd) s.bpe.instrctrl s.bpe.instraddr)
          sent := 0, recv := [] }) }
      resp := .accepted }

/-- With no command running, no frame in progress and the engine enabled in memory mode, each of the four data rows
with a valid descriptor stores it, latches the frame and arms it, with the counters cleared; the device and everything
else is unchanged. (40_bus_engine.md R113, R115, R116, R118, R119) -/
def Obligations.DataFrameArms : Prop :=
  ∀ (i : Instr) (k : Kind) (d : DescFields) (s : State),
    (i, k) ∈ [(.bpeRegRead d, .regRead), (.bpeMemRead d, .memRead), (.bpeRegWrite d, .regWrite),
              (.bpeMemWrite d, .memWrite)] →
    s.fcs.busy = false → s.bpe.fstate = .idle → s.bpe.enable = true → s.bpe.ctrlb.getLsbD 0 = true →
    descValid (d.toWord k) = true →
    exec i s = .next { s with
      bpe := { s.bpe with instrframe := d.toWord k, syncPending := true, fstate := .armed, fread := 0, fwdata := [],
                          fnext := 0#32, fdesc := some (assemble (d.toWord k) s.bpe.instrctrl 0#32) }
      resp := .accepted }

/-- A value that matches none of the five descriptor rows is never valid: with no command running and no frame in
progress, BPE.FRAME with it stores it, sets the read-back flag and INTFLAG.ERROR, starts no frame and changes nothing
else. (40_bus_engine.md R113, 30_encoding.md R93, 60_exceptions.md R296) -/
def Obligations.OtherDescriptorSetsError : Prop :=
  ∀ (v : Word) (s : State), frameValueWf v = true → s.fcs.busy = false → s.bpe.fstate = .idle →
    exec (.bpeFrame v) s = .next { s with
      bpe := { s.bpe with instrframe := v, syncPending := true, intflag := s.bpe.intflag ||| 0x00000008#32 }
      resp := .accepted }

/-- For each of the six INSTRFRAME rows: while a command runs the write is refused with SequencerBusy, else while a
frame is in progress with FrameBusy, else with the engine disabled or not in memory mode or the descriptor invalid it
is stored and sets ERROR. (40_bus_engine.md R113, R124, 60_exceptions.md R291) -/
def Obligations.FrameWriteRefused : Prop :=
  ∀ (i : Instr) (v : Word) (d : DescFields) (s : State),
    (i, v) ∈ [(.bpeCmd d, d.toWord .cmd), (.bpeRegRead d, d.toWord .regRead), (.bpeMemRead d, d.toWord .memRead),
              (.bpeRegWrite d, d.toWord .regWrite), (.bpeMemWrite d, d.toWord .memWrite), (.bpeFrame v, v)] →
    (s.fcs.busy = true → exec i s = .next { s with
      faults := insertReason .sequencerBusy s.faults, resp := .busError .sequencerBusy }) ∧
    (s.fcs.busy = false → s.bpe.fstate ≠ .idle → exec i s = .next { s with
      faults := insertReason .frameBusy s.faults, resp := .busError .frameBusy }) ∧
    (s.fcs.busy = false → s.bpe.fstate = .idle →
      s.bpe.enable = false ∨ s.bpe.ctrlb.getLsbD 0 = false ∨ descValid v = false →
      exec i s = .next { s with
        bpe := { s.bpe with instrframe := v, syncPending := true, intflag := s.bpe.intflag ||| 0x00000008#32 }
        resp := .accepted })

/-- In every state, whatever the frame machine and the sequencer do, BPE.SYNC answers INSTRFRAME and clears
sync_pending, with no fault and nothing else changed; a read of another width than 4 bytes is refused with BadWidth.
(R134) -/
def Obligations.SyncReads : Prop :=
  (∀ s : State, exec .bpeSync s
    = .next { s with bpe := { s.bpe with syncPending := false }, resp := .data s.bpe.instrframe }) ∧
  (∀ n : Nat, n ≠ 4 →
    decodeHost { dir := .read, size := n, space := .regs, off := 0x038#32, value := 0#32 } = .refused .badWidth) ∧
  (∀ v : Word, decodeHost { dir := .read, size := 4, space := .regs, off := 0x038#32, value := v } = .instr .bpeSync)

/-- CLRFLAG clears the chosen bits of INTFLAG, INTENSET sets and INTENCLR clears the chosen bits of INTEN, each in
every state and with nothing else changed; a 32-bit write of v to their registers is such a row, with the chosen bits
those of v in 3, 10 and 16; INTENCLR and INTENSET read INTEN, which is 0 at reset. In every state the interrupt output
is 1 exactly where INTFLAG & INTEN is not 0. (R27, R136, R55) -/
def Obligations.FlagRows : Prop :=
  (∀ (e i q : Bool) (s : State),
    let m : Word := (if e then 0x00000008#32 else 0#32) ||| (if i then 0x00000400#32 else 0#32)
      ||| (if q then 0x00010000#32 else 0#32)
    exec (.bpeClrFlag e i q) s
      = .next { s with bpe := { s.bpe with intflag := s.bpe.intflag &&& ~~~m }, resp := .accepted } ∧
    exec (.bpeIntenSet e i q) s
      = .next { s with bpe := { s.bpe with inten := s.bpe.inten ||| m }, resp := .accepted } ∧
    exec (.bpeIntenClr e i q) s
      = .next { s with bpe := { s.bpe with inten := s.bpe.inten &&& ~~~m }, resp := .accepted }) ∧
  (∀ v : Word, ∃ e i q : Bool,
    v &&& 0x00010408#32 = (if e then 0x00000008#32 else 0#32) ||| (if i then 0x00000400#32 else 0#32)
      ||| (if q then 0x00010000#32 else 0#32) ∧
    decodeHost { dir := .write, size := 4, space := .regs, off := 0x01C#32, value := v }
      = .instr (.bpeClrFlag e i q) ∧
    decodeHost { dir := .write, size := 4, space := .regs, off := 0x018#32, value := v }
      = .instr (.bpeIntenSet e i q) ∧
    decodeHost { dir := .write, size := 4, space := .regs, off := 0x014#32, value := v }
      = .instr (.bpeIntenClr e i q)) ∧
  (∀ (v : Word) (s : State),
    decodeHost { dir := .read, size := 4, space := .regs, off := 0x014#32, value := v } = .plain (.readReg .intenclr) ∧
    decodeHost { dir := .read, size := 4, space := .regs, off := 0x018#32, value := v } = .plain (.readReg .intenset) ∧
    execPlain (.readReg .intenclr) s = { s with resp := .data s.bpe.inten } ∧
    execPlain (.readReg .intenset) s = { s with resp := .data s.bpe.inten }) ∧
  State.reset.bpe.inten = 0#32 ∧
  (∀ s : State, s.irq = true ↔ s.bpe.intflag &&& s.bpe.inten ≠ 0#32)

/-- With no command running and the read-back done, a window read of a read-kind frame at an allowed offset moves n
bytes from the device, answers them little-endian, feeds them to the CRC exactly for a snooped MEMREAD, and advances
fread and fnext; it opens an armed frame first, with the window offset as the address of a MEMREAD and INSTRADDR
otherwise. That fnext is o + n modulo 2^32, where the window has 2^32 bytes, is the model's reading
(notes/assumptions/11.md). (40_bus_engine.md R126, R117, R127, R137, 20_memory.md R64, notes/assumptions/11.md) -/
def Obligations.WindowReadMovesBytes : Prop :=
  ∀ (n : AccessSize) (o : Word) (f : Frame) (s : State),
    let read (u : State) : State := { u.devSentN n.bytes with
      bpe := { u.bpe with fread := u.bpe.fread + n.bytes, fnext := o + BitVec.ofNat 32 n.bytes }
      crc := (if f.kind = .memRead ∧ s.crc.snoop = true then
          { s.crc with crcstate := crcFeed s.crc.crcstate (u.devBytes n.bytes) } else s.crc)
      resp := .data (ofLeBytes (u.devBytes n.bytes)) }
    let a : Word := if f.kind = .memRead then o else s.bpe.instraddr
    o.toNat % n.bytes = 0 → o.toNat + n.bytes ≤ s.cfg.winSize → s.fcs.busy = false → s.bpe.syncPending = false →
    s.bpe.fdesc = some f → f.kind = .regRead ∨ f.kind = .memRead →
    (s.bpe.fstate = .armed → (f.kind = .memRead ∨ o = 0#32) →
      exec (.winRead n o) s
        = .next (read ({ s with bpe := { s.bpe with faddr := a, fstate := .opened } }.devBegin { f with addr := a }))) ∧
    (s.bpe.fstate = .opened → o = s.bpe.fnext → exec (.winRead n o) s = .next (read s))

/-- With no command running and the read-back done, a window write of a write-kind frame at an allowed offset gives
the n bytes of the value, lowest first, to the device, and advances fwdata and fnext; it opens an armed frame first,
with the window offset as the address of a MEMWRITE and INSTRADDR otherwise. That fnext is o + n modulo 2^32, where
the window has 2^32 bytes, is the model's reading (notes/assumptions/11.md). (40_bus_engine.md R128, R117, R127,
20_memory.md R64, notes/assumptions/11.md) -/
def Obligations.WindowWriteMovesBytes : Prop :=
  ∀ (n : AccessSize) (o v : Word) (f : Frame) (s : State),
    let write (u : State) : State := { u.devTake (leBytes n.bytes v) with
      bpe := { u.bpe with fwdata := u.bpe.fwdata ++ leBytes n.bytes v, fnext := o + BitVec.ofNat 32 n.bytes }
      resp := .accepted }
    let a : Word := if f.kind = .memWrite then o else s.bpe.instraddr
    o.toNat % n.bytes = 0 → o.toNat + n.bytes ≤ s.cfg.winSize → s.fcs.busy = false → s.bpe.syncPending = false →
    s.bpe.fdesc = some f → f.kind = .regWrite ∨ f.kind = .memWrite →
    (s.bpe.fstate = .armed → (f.kind = .memWrite ∨ o = 0#32) →
      exec (.winWrite n o v) s
        = .next (write ({ s with bpe := { s.bpe with faddr := a, fstate := .opened } }.devBegin { f with addr := a }))) ∧
    (s.bpe.fstate = .opened → o = s.bpe.fnext → exec (.winWrite n o v) s = .next (write s))

/-- A window read and a window write are refused, with the first reason that applies: Misaligned, SequencerBusy,
NoFrame, SyncMissing, WrongDirection, NotContiguous; a refused access changes only the fault record and the answer.
(60_exceptions.md R293, 40_bus_engine.md R125, R127, R129, R130, 20_memory.md R67) -/
def Obligations.WindowAccessRefused : Prop :=
  ∀ (n : AccessSize) (o v : Word) (s : State) (w : Bool),
    let i : Instr := if w then .winWrite n o v else .winRead n o
    let refused (r : FaultReason) : Prop :=
      exec i s = .next { s with faults := insertReason r s.faults, resp := .busError r }
    (¬ (o.toNat % n.bytes = 0 ∧ o.toNat + n.bytes ≤ s.cfg.winSize) → refused .misaligned) ∧
    (o.toNat % n.bytes = 0 ∧ o.toNat + n.bytes ≤ s.cfg.winSize →
      (s.fcs.busy = true → refused .sequencerBusy) ∧
      (s.fcs.busy = false →
        (s.bpe.fstate = .idle ∨ s.bpe.fstate = .running → refused .noFrame) ∧
        (∀ f, s.bpe.fdesc = some f → s.bpe.fstate = .armed ∨ s.bpe.fstate = .opened →
          (s.bpe.syncPending = true → refused .syncMissing) ∧
          (s.bpe.syncPending = false →
            ((if w then f.kind.isWrite else f.kind.isRead) = false → refused .wrongDirection) ∧
            ((if w then f.kind.isWrite else f.kind.isRead) = true →
              (s.bpe.fstate = .armed → f.kind.isMem = false → o ≠ 0#32 → refused .notContiguous) ∧
              (s.bpe.fstate = .opened → o ≠ s.bpe.fnext → refused .notContiguous))))))

/-- Where a four-byte window read is not refused, four one-byte reads at the four offsets in order are not refused
either, answer the four bytes of its value, lowest first, and leave the state the word read leaves, but for the answer
to the host. (40_bus_engine.md R126, 20_memory.md R64, R68) -/
def Obligations.WordReadIsByteReads : Prop :=
  ∀ (o : Word) (s : State) (x : Frame × Bool), windowCheck s false o 4 = .ok x →
    ∃ (t t0 t1 t2 t3 : State) (b0 b1 b2 b3 : Byte),
      exec (.winRead .b4 o) s = .next t ∧
      exec (.winRead .b1 o) s = .next t0 ∧ exec (.winRead .b1 (o + 1#32)) t0 = .next t1 ∧
      exec (.winRead .b1 (o + 2#32)) t1 = .next t2 ∧ exec (.winRead .b1 (o + 3#32)) t2 = .next t3 ∧
      t0.resp = .data (b0.setWidth 32) ∧ t1.resp = .data (b1.setWidth 32) ∧ t2.resp = .data (b2.setWidth 32) ∧
      t3.resp = .data (b3.setWidth 32) ∧ t.resp = .data (b3 ++ b2 ++ b1 ++ b0) ∧ { t3 with resp := t.resp } = t

/-- With no command running and ENABLE not being cleared during a frame, LASTXFER sets ENABLE; an open frame then runs
to its end, an armed one begins with the address INSTRADDR and runs, and with no frame or a running one nothing else
happens. It is refused with SequencerBusy while a command runs, else with DisableInFrame where it would clear ENABLE
during a frame. That faddr is not written when LASTXFER begins an armed frame is the model's reading
(notes/assumptions/11.md). (40_bus_engine.md R131, R132, R117, notes/assumptions/11.md) -/
def Obligations.LastXferEndsFrame : Prop :=
  ∀ (en : Bool) (s : State),
    (s.fcs.busy = true → exec (.bpeLastXfer en) s = .next { s with
      faults := insertReason .sequencerBusy s.faults, resp := .busError .sequencerBusy }) ∧
    (s.fcs.busy = false → en = false → s.bpe.fstate ≠ .idle → exec (.bpeLastXfer en) s = .next { s with
      faults := insertReason .disableInFrame s.faults, resp := .busError .disableInFrame }) ∧
    (s.fcs.busy = false → (en = true ∨ s.bpe.fstate = .idle) →
      (s.bpe.fstate = .idle ∨ s.bpe.fstate = .running →
        exec (.bpeLastXfer en) s = .next { s with bpe := { s.bpe with enable := en }, resp := .accepted }) ∧
      (s.bpe.fstate = .opened → exec (.bpeLastXfer en) s
        = .next { s with bpe := { s.bpe with enable := en, fstate := .running }, resp := .accepted }) ∧
      (∀ f, s.bpe.fstate = .armed → s.bpe.fdesc = some f → exec (.bpeLastXfer en) s
        = .next { s with
            bpe := { s.bpe with enable := en, fstate := .running }
            dev := { s.dev with cur := (some
              { frame := { f with addr := s.bpe.instraddr }
                plan := devPlan s.cfg s.dev { f with addr := s.bpe.instraddr }, sent := 0, recv := [] }) }
            resp := .accepted }))

/-- BPE.ENABLE sets CTRLA.ENABLE to the written bit and changes nothing else, except that clearing it during a frame
is refused with DisableInFrame and leaves it at 1. (40_bus_engine.md R135, 10_state.md R24) -/
def Obligations.EnableWrites : Prop :=
  ∀ (en : Bool) (s : State),
    (en = true ∨ s.bpe.fstate = .idle → exec (.bpeEnable en) s
      = .next { s with bpe := { s.bpe with enable := en }, resp := .accepted }) ∧
    (en = false → s.bpe.fstate ≠ .idle → exec (.bpeEnable en) s = .next { s with
      faults := insertReason .disableInFrame s.faults, resp := .busError .disableInFrame })

/-- In every state the software reset answers a next state: the BPE, FCS and CRC registers and hidden state take their
values, Device Mode, SEQBUF, the fault record, the clock and the parameters are kept, and the device is unchanged
unless chip select was asserted, in which case its state is arbitrary and it holds no frame. That the latched frame
and rbytes are kept is the model's reading (notes/assumptions/11.md). (70_reset_and_hazards.md R321, R322, R323) -/
def Obligations.SoftwareReset : Prop :=
  ∀ s : State, ∃ t : State, exec .bpeSwrst s = .next t ∧
    t.bpe = { enable := false, ctrlb := 0#32, baud := 0#32, inten := 0#32, intflag := 0#32, instraddr := 0#32,
              instrctrl := 0#32, instrframe := 0#32, fstate := .idle, stalled := false, syncPending := false,
              fdesc := s.bpe.fdesc, faddr := 0#32, fnext := 0#32, fwdata := [], fread := 0 } ∧
    t.fcs = { seqctrl := 0#4, seqaddr := 0#32, seqlen := 0#9, seqparam := 0#32, seqbudget := 0#32, busy := false,
              doneFlag := false, err := .none, failstep := .idle, step := .idle, quadact := s.fcs.quadact,
              addr4 := s.fcs.addr4, seqsr := 0#8, seqid := 0#32, cmd := none, polls := 0#32, t0 := 0#32,
              rbytes := s.fcs.rbytes } ∧
    t.crc = { snoop := false, crcstate := 0xFFFFFFFF#32, crcexpect := 0#32 } ∧
    t.seqbuf = s.seqbuf ∧ t.faults = s.faults ∧ t.clk = s.clk ∧ t.cfg = s.cfg ∧ t.inputs = s.inputs ∧
    t.sched = s.sched ∧ t.resp = .accepted ∧
    (s.bpe.fstate = .idle ∨ s.bpe.fstate = .armed → t.dev = s.dev ∧ t.draws = s.draws) ∧
    (s.bpe.fstate = .opened ∨ s.bpe.fstate = .running → t.dev.cur = none ∧
      t.dev = { s.dev.arbitrary s.cfg s.draws with cur := none } ∧ t.draws = s.draws + 1)

/-- A running frame that does not stall ends at the device, the frame machine is IDLE and INSTREND is set; one that
stalls stays running for ever; with no running frame, or a stalled one, the BPE does nothing. (40_bus_engine.md R133,
70_reset_and_hazards.md R336) -/
def Obligations.FrameCompletes : Prop :=
  ∀ s : State,
    (s.bpe.fstate = .running → s.bpe.stalled = false →
      bpeStep s = if s.drawStall.1 then { s.drawStall.2 with bpe := { s.bpe with stalled := true } }
        else { s.drawStall.2.devEnd with
          bpe := { s.bpe with fstate := .idle, intflag := s.bpe.intflag ||| 0x00000400#32 } }) ∧
    (s.bpe.fstate ≠ .running ∨ s.bpe.stalled = true → bpeStep s = s)

/-- With no command running and no frame in progress, each of the twelve SEQ rows starts its command: CMD is stored,
BUSY set, DONE, ERR, FAILSTEP and the poll count cleared, the step is CHECK, and nothing else changes; the three rows
that only variant A has need variant A. (41_sequencer.md R150, 30_encoding.md R95, R96) -/
def Obligations.SeqRowsStart : Prop :=
  ∀ (i : Instr) (c : Cmd) (k : BitVec 4) (s : State),
    (i, c, k) ∈ [(Instr.seqReset, Cmd.reset, 1#4), (.seqReadJedecId, .readJedecId, 2#4),
      (.seqReadStatus, .readStatus, 3#4), (.seqWriteEnable, .writeEnable, 4#4), (.seqEnableQuadIo, .enableQuadIo, 5#4),
      (.seqSectorErase, .sectorErase, 6#4), (.seqPageProgram, .pageProgram, 7#4),
      (.seqHighSpeedRead, .highSpeedRead, 8#4), (.seqWaitReady, .waitReady, 9#4),
      (.seqSetDummyCycles, .setDummyCycles, 10#4), (.seqEnter4Byte, .enter4Byte, 11#4),
      (.seqExit4Byte, .exit4Byte, 12#4)] →
    s.fcs.busy = false → s.bpe.fstate = .idle → (10 ≤ k.toNat → s.cfg.variant = .A) →
    exec i s = .next { s with
      fcs := { s.fcs with seqctrl := k, cmd := some c, busy := true, doneFlag := false, err := .none,
                          failstep := .idle, step := .check, polls := 0#32 }
      resp := .accepted }

/-- Each SEQ row is refused with SequencerBusy while a command runs, else with FrameBusy while a frame is in progress;
else the three rows that only variant A has are refused with IllegalCommand on variant B. A reserved CMD is refused in
the same order. Only the fault record and the answer change. A 4-byte write of SEQCTRL whose CMD is 0, 13, 14 or 15 is
such a reserved CMD, whatever its other bits. (41_sequencer.md R150, 30_encoding.md R96, 60_exceptions.md R291) -/
def Obligations.SeqRowsRefused : Prop :=
  ∀ (i : Instr) (c : BitVec 4) (s : State),
    let refused (o : Host.Outcome State Fault Refusal) (r : FaultReason) : Prop :=
      o = .next { s with faults := insertReason r s.faults, resp := .busError r }
    let onlyA : List Instr := [.seqSetDummyCycles, .seqEnter4Byte, .seqExit4Byte]
    (i ∈ [.seqReset, .seqReadJedecId, .seqReadStatus, .seqWriteEnable, .seqEnableQuadIo, .seqSectorErase,
          .seqPageProgram, .seqHighSpeedRead, .seqWaitReady] ++ onlyA →
      (s.fcs.busy = true → refused (exec i s) .sequencerBusy) ∧
      (s.fcs.busy = false → s.bpe.fstate ≠ .idle → refused (exec i s) .frameBusy) ∧
      (s.fcs.busy = false → s.bpe.fstate = .idle → i ∈ onlyA → s.cfg.variant = .B →
        refused (exec i s) .illegalCommand)) ∧
    (s.fcs.busy = true → refused (.next (execPlain (.reservedCmd c) s)) .sequencerBusy) ∧
    (s.fcs.busy = false → s.bpe.fstate ≠ .idle → refused (.next (execPlain (.reservedCmd c) s)) .frameBusy) ∧
    (s.fcs.busy = false → s.bpe.fstate = .idle → refused (.next (execPlain (.reservedCmd c) s)) .illegalCommand) ∧
    (∀ v : Word, v.extractLsb' 0 4 ∈ [0#4, 13#4, 14#4, 15#4] →
      decodeHost { dir := .write, size := 4, space := .regs, off := 0x080#32, value := v }
        = .plain (.reservedCmd (v.extractLsb' 0 4)))

/-- With no command running SEQ.CLRDONE clears DONE, ERR and FAILSTEP and nothing else; while a command runs it is
ignored, without a fault. A 4-byte write of SEQSTATUS is SEQ.CLRDONE where bit 1 of the value is 1; with 0 there it is
accepted in every state and changes nothing but the answer. (10_state.md R39, 60_exceptions.md R292) -/
def Obligations.ClrDoneClears : Prop :=
  (∀ s : State,
    (s.fcs.busy = false → exec .seqClrDone s = .next { s with
      fcs := { s.fcs with doneFlag := false, err := .none, failstep := .idle }, resp := .accepted }) ∧
    (s.fcs.busy = true → exec .seqClrDone s = .next { s with resp := .accepted })) ∧
  (∀ v : Word, decodeHost { dir := .write, size := 4, space := .regs, off := 0x094#32, value := v }
    = if v.getLsbD 1 then .instr .seqClrDone else .plain .seqstatusIdle) ∧
  (∀ s : State, execPlain .seqstatusIdle s = { s with resp := .accepted })

/-- finish(e) sets ERR to e, FAILSTEP to 0 for success and to the step otherwise, the step to IDLE, BUSY to 0, DONE to
1 and INTFLAG.SEQDONE to 1, and changes nothing else. (41_sequencer.md R151, 60_exceptions.md R295) -/
def Obligations.FinishRule : Prop :=
  ∀ (e : ErrCode) (s : State), s.finish e = { s with
    fcs := { s.fcs with err := e, failstep := if e = .none then .idle else s.fcs.step, step := .idle, busy := false,
                        doneFlag := true }
    bpe := { s.bpe with intflag := s.bpe.intflag ||| 0x00010000#32 } }

/-- Each frame of the table has the width, opcode, address phase, option, dummy count and kind the table gives it, at
the command width of Device Mode and with 24 or 32 address bits by ADDR4. The address field of a frame without an
address phase is the model's own zero. (41_sequencer.md R154, R155, R156, R181) -/
def Obligations.FcsFrameTable : Prop :=
  ∀ s : State,
    let cw : WidthCode := if s.fcs.quadact then .w444 else .w111
    let q (d : BitVec 4) : BitVec 4 := if s.fcs.quadact then d else 0#4
    let bare (w : WidthCode) (op : Byte) (d : BitVec 4) (k : Kind) : Frame :=
      { width := w, addrEn := false, addr32 := false, addr := 0#32, optEn := false, optLen := 0#2, opt := 0#8,
        dummy := d, kind := k, instr := op }
    let addressed (op : Byte) (k : Kind) : Frame :=
      { width := cw, addrEn := true, addr32 := s.fcs.addr4, addr := s.fcs.seqaddr, optEn := false, optLen := 0#2,
        opt := 0#8, dummy := 0#4, kind := k, instr := op }
    fRsten s = bare cw s.cfg.ops.rsten 0#4 .cmd ∧ fRst s = bare cw s.cfg.ops.rst 0#4 .cmd ∧
    fRdid s = bare cw (if s.fcs.quadact then s.cfg.ops.rdidQ else s.cfg.ops.rdid) (q s.cfg.ops.dummyRdidQ) .regRead ∧
    fRdsr s = bare cw s.cfg.ops.rdsr (q s.cfg.ops.dummyRdsrQ) .regRead ∧
    fWren s = bare cw s.cfg.ops.wren 0#4 .cmd ∧ fEqio s = bare .w111 s.cfg.ops.eqio 0#4 .cmd ∧
    fWrevcr s = bare .w111 s.cfg.ops.wrevcr 0#4 .regWrite ∧ fWrvcr s = bare cw s.cfg.ops.wrvcr 0#4 .regWrite ∧
    fEn4b s = bare cw s.cfg.ops.en4b 0#4 .cmd ∧ fEx4b s = bare cw s.cfg.ops.ex4b 0#4 .cmd ∧
    fSe s = addressed s.cfg.ops.se .cmd ∧ fPp s = addressed s.cfg.ops.pp .memWrite ∧
    ∀ (w : WidthCode) (op : Byte), WidthCode.ofBits (s.fcs.seqparam.extractLsb' 0 3) = some w →
      s.cfg.ops.read w = some op →
      fRead s = { width := w, addrEn := true, addr32 := s.fcs.addr4, addr := s.fcs.seqaddr,
                  optEn := s.fcs.seqparam.getLsbD 8, optLen := s.fcs.seqparam.extractLsb' 9 2,
                  opt := s.fcs.seqparam.extractLsb' 16 8, dummy := s.fcs.seqparam.extractLsb' 4 4, kind := .memRead,
                  instr := op }

/-- At any step of any command but CHECK, with the engine disabled or not in memory mode the FCS step ends the command
with BusTimeout at that step and touches nothing else, the device included; with the engine running and a stalled bus
it does so with the device in an arbitrary state. (40_bus_engine.md R120, 41_sequencer.md R153, 60_exceptions.md R294)
-/
def Obligations.FcsBusTimeout : Prop :=
  ∀ (s : State) (c : Cmd) (st : SeqStep), s.atStep c st → legalStep s.cfg.variant c st = true → st ≠ .check →
    (s.bpe.running = false → fcsStep s = { s with
      fcs := { s.fcs with err := .busTimeout, failstep := st, step := .idle, busy := false, doneFlag := true }
      bpe := { s.bpe with intflag := s.bpe.intflag ||| 0x00010000#32 } }) ∧
    (s.bpe.running = true → s.drawStall.1 = false ∨ fcsStep s = { s.drawStall.2.havoc with
      fcs := { s.fcs with err := .busTimeout, failstep := st, step := .idle, busy := false, doneFlag := true }
      bpe := { s.bpe with intflag := s.bpe.intflag ||| 0x00010000#32 } })

/-- In CHECK no frame is sent: each command goes on to the step its rule names, or ends with the error of the first
operand check it fails, in the order length, capacity, then straddle or parameters; ENABLE_QUAD_IO in quad mode
succeeds at once. (41_sequencer.md R157, R165, R175, R177, R179, R180, R182, R183, R185) -/
def Obligations.FcsChecks : Prop :=
  ∀ s : State,
    let a := s.fcs.seqaddr.toNat
    let n := s.fcs.seqlen.toNat
    let inCap (m : Nat) : Prop := a + m ≤ s.cfg.capacity ∧ (s.fcs.addr4 = true ∨ a + m ≤ 2 ^ 24)
    let w := (s.fcs.seqparam.extractLsb' 0 3).toNat
    (∀ c, c = .reset ∨ c = .readJedecId ∨ c = .readStatus → s.atStep c .check →
      fcsStep s = { s with fcs := { s.fcs with step := .main } }) ∧
    (∀ c, c = .writeEnable ∨ c = .setDummyCycles ∨ c = .enter4Byte ∨ c = .exit4Byte → s.atStep c .check →
      fcsStep s = { s with fcs := { s.fcs with step := .wren } }) ∧
    (s.atStep .waitReady .check →
      fcsStep s = { s with fcs := { s.fcs with step := .pollWip, polls := 0#32, t0 := s.clk } }) ∧
    (s.atStep .enableQuadIo .check →
      (s.fcs.quadact = true → fcsStep s = s.finish .none) ∧
      (s.fcs.quadact = false → s.cfg.variant = .A → fcsStep s = { s with fcs := { s.fcs with step := .wren } }) ∧
      (s.fcs.quadact = false → s.cfg.variant = .B → fcsStep s = { s with fcs := { s.fcs with step := .main } })) ∧
    (s.atStep .sectorErase .check →
      (inCap 1 → fcsStep s = { s with fcs := { s.fcs with step := .wren } }) ∧
      (¬ inCap 1 → fcsStep s = s.finish .capacityExceeded)) ∧
    (s.atStep .pageProgram .check →
      (n < 1 ∨ s.cfg.pageSize < n → fcsStep s = s.finish .invalidParameter) ∧
      (1 ≤ n → n ≤ s.cfg.pageSize → ¬ inCap n → fcsStep s = s.finish .capacityExceeded) ∧
      (1 ≤ n → n ≤ s.cfg.pageSize → inCap n → s.cfg.pageSize < a % s.cfg.pageSize + n →
        fcsStep s = s.finish .invalidParameter) ∧
      (1 ≤ n → n ≤ s.cfg.pageSize → inCap n → a % s.cfg.pageSize + n ≤ s.cfg.pageSize →
        fcsStep s = { s with fcs := { s.fcs with step := .wren } })) ∧
    (s.atStep .highSpeedRead .check →
      let paramsGood : Prop := (if s.fcs.quadact then w = 6 else w ≤ 4) ∧
        (s.fcs.seqparam.getLsbD 8 = true →
          2 ^ (s.fcs.seqparam.extractLsb' 9 2).toNat % (widthOf (s.fcs.seqparam.extractLsb' 0 3)).addrLanes = 0)
      (n < 1 ∨ 256 < n → fcsStep s = s.finish .invalidParameter) ∧
      (1 ≤ n → n ≤ 256 → ¬ inCap n → fcsStep s = s.finish .capacityExceeded) ∧
      (1 ≤ n → n ≤ 256 → inCap n → ¬ paramsGood → fcsStep s = s.finish .invalidParameter) ∧
      (1 ≤ n → n ≤ 256 → inCap n → paramsGood → fcsStep s = { s with fcs := { s.fcs with step := .main } }))

/-- Where an FCS frame is performed, each WREN, MAIN and MAIN2 step sends the frame its rule names, with the data its
rule names, and does the bookkeeping its rule names on the state that the frame leaves. (41_sequencer.md R158, R165,
R167, R169, R175, R177, R179, R183, R187, R189, R190) -/
def Obligations.FcsFrameSteps : Prop :=
  ∀ s : State, s.busReady →
    let sent (f : Frame) : State := s.drawStall.2.fcsPerform (bareFrame f)
    let sentWith (f : Frame) (l : List Byte) : State := s.drawStall.2.fcsPerform (sendFrame f l)
    let got (f : Frame) (n : Nat) : State := s.drawStall.2.fcsPerform (readFrame f n)
    let byte (u : State) (k : Nat) : Byte := u.fcs.rbytes[k]?.getD 0#8
    (∀ c, legalStep s.cfg.variant c .wren = true → s.atStep c .wren → fcsStep s = { sent (fWren s) with
      fcs := { (sent (fWren s)).fcs with step := .pollWel, polls := 0#32, t0 := s.clk } }) ∧
    (s.atStep .reset .main → fcsStep s = { sent (fRsten s) with
      fcs := { (sent (fRsten s)).fcs with step := .main2 } }) ∧
    (s.atStep .reset .main2 → fcsStep s = State.finish .none { sent (fRst s) with
      fcs := { (sent (fRst s)).fcs with quadact := false, addr4 := false } }) ∧
    (s.atStep .readJedecId .main → fcsStep s =
      let u := got (fRdid s) 3
      let id : JedecId := { mfr := byte u 0, typ := byte u 1, capid := byte u 2 }
      State.finish (if id = s.cfg.jedecA ∨ id = s.cfg.jedecB then .none else .unsupported)
        { u with fcs := { u.fcs with seqid := 0#8 ++ byte u 2 ++ byte u 1 ++ byte u 0 } }) ∧
    (s.atStep .readStatus .main → fcsStep s =
      let u := got (fRdsr s) 1
      State.finish .none { u with fcs := { u.fcs with seqsr := byte u 0 } }) ∧
    (s.atStep .enableQuadIo .main → fcsStep s =
      let u := if s.cfg.variant = .A then sentWith (fWrevcr s) [s.cfg.ops.evcrQuad] else sent (fEqio s)
      State.finish .none { u with fcs := { u.fcs with quadact := true } }) ∧
    (s.atStep .sectorErase .main → fcsStep s = (sent (fSe s)).finish .none) ∧
    (s.atStep .pageProgram .main → fcsStep s =
      (sentWith (fPp s) (bufBytes s.seqbuf 0 s.fcs.seqlen.toNat)).finish .none) ∧
    (s.atStep .highSpeedRead .main → fcsStep s =
      let u := got (fRead s) s.fcs.seqlen.toNat
      State.finish .none { u with seqbuf := bufSet u.seqbuf 0 u.fcs.rbytes }) ∧
    (s.atStep .setDummyCycles .main → fcsStep s =
      (sentWith (fWrvcr s) [s.fcs.seqparam.extractLsb' 4 4 ++ s.cfg.ops.vcrLow]).finish .none) ∧
    (s.atStep .enter4Byte .main → fcsStep s = State.finish .none { sent (fEn4b s) with
      fcs := { (sent (fEn4b s)).fcs with addr4 := true } }) ∧
    (s.atStep .exit4Byte .main → fcsStep s = State.finish .none { sent (fEx4b s) with
      fcs := { (sent (fEx4b s)).fcs with addr4 := false } })

/-- Where an FCS frame is performed, a poll reads one status byte, stores it in SEQSR and counts it; with the awaited
bit as wanted the command goes on to MAIN, or ends well for WRITE_ENABLE and WAIT_READY; else it ends with
DeviceNotReady once the budget is used up, a number of polls (at least one) or of milliseconds, and polls again
otherwise. That the count of polls wraps after 2^32 - 1 is the model's choice (notes/assumptions/26.md).
(41_sequencer.md R158, R159, R160, R163, 10_state.md R40, notes/assumptions/26.md) -/
def Obligations.PollStep : Prop :=
  ∀ (s : State) (c : Cmd) (st : SeqStep), s.busReady → s.atStep c st → legalStep s.cfg.variant c st = true →
    st = .pollWel ∨ st = .pollWip →
    let t : State := s.drawStall.2.fcsPerform (readFrame (fRdsr s) 1)
    let sr : Byte := t.fcs.rbytes[0]?.getD 0#8
    let u : State := { t with fcs := { t.fcs with seqsr := sr, polls := s.fcs.polls + 1#32 } }
    let value := (s.fcs.seqbudget.extractLsb' 0 24).toNat
    let usedUp : Prop := if s.fcs.seqbudget.getLsbD 31 then value ≤ (s.clk - s.fcs.t0).toNat
      else max value 1 ≤ (s.fcs.polls + 1#32).toNat
    let ok : Bool := if st = .pollWel then sr.getLsbD s.cfg.welBit.val else !sr.getLsbD s.cfg.wipBit.val
    (ok = true → fcsStep s = if c = .writeEnable ∨ c = .waitReady then u.finish .none
      else { u with fcs := { u.fcs with step := .main } }) ∧
    (ok = false → usedUp → fcsStep s = u.finish .deviceNotReady) ∧
    (ok = false → ¬ usedUp → fcsStep s = u)

/-- From CHECK of any command that the variant has, with a budget that counts polls, whatever the rest of the machine
does between the FCS steps to anything but the FCS registers and the parameters, the command has ended after some
number of FCS steps that is at most 3 plus the greater of VALUE and 1. (41_sequencer.md R161, R194) -/
def Obligations.CommandTerminates : Prop :=
  ∀ (env : Nat → State → State) (s : State) (c : Cmd),
    (∀ k u, (env k u).fcs = u.fcs ∧ (env k u).cfg = u.cfg) → s.atStep c .check →
    legalStep s.cfg.variant c .check = true → s.fcs.budgetMs = false →
    ∃ k, k ≤ 3 + max s.fcs.budgetValue 1 ∧ (fcsRun env k s).fcs.busy = false

/-- On a matched device at rest with the write-enable latch set, the MAIN step of SECTOR_ERASE for an address in
capacity makes the device busy erasing the sector that contains it, changes nothing else of the device, and ends the
command with ERR = 0. That the frame leaves the received bytes empty is the model's choice (notes/assumptions/28.md).
(41_sequencer.md R177, R155, R156, 42_flash_commands.md R217, R212, R213, R232, notes/assumptions/28.md) -/
def Obligations.EraseCommandErases : Prop :=
  ∀ s : State, s.matched → OpTable.wf s.cfg.devOps → s.busReady → s.atStep .sectorErase .main → s.dev.atRest →
    s.dev.wel = true → s.fcs.seqaddr.toNat + 1 ≤ s.cfg.capacity →
    (s.fcs.addr4 = true ∨ s.fcs.seqaddr.toNat + 1 ≤ 2 ^ 24) →
    fcsStep s = { s.drawStall.2 with
      dev := { s.dev.afterFrame with pending := some (.erase (s.fcs.seqaddr.toNat / s.cfg.sectorSize)) }
      fcs := { s.fcs with rbytes := [], err := .none, failstep := .idle, step := .idle, busy := false,
                          doneFlag := true }
      bpe := { s.bpe with intflag := s.bpe.intflag ||| 0x00010000#32 } }

/-- On a matched device at rest with the write-enable latch set, the MAIN step of PAGE_PROGRAM for an accepted address
and length makes the device busy programming byte k of SEQBUF at SEQADDR + k for every k below SEQLEN, changes nothing
else of the device, and ends the command with ERR = 0. That the frame leaves the received bytes empty is the model's
choice (notes/assumptions/28.md). (41_sequencer.md R179, R155, R156, 42_flash_commands.md R218, R212, R213, R232,
notes/assumptions/28.md) -/
def Obligations.ProgramCommandPrograms : Prop :=
  ∀ s : State, s.matched → OpTable.wf s.cfg.devOps → s.busReady → s.atStep .pageProgram .main → s.dev.atRest →
    s.dev.wel = true → s.fcs.seqlen.toNat ≤ 256 → checkProgram s.cfg s.fcs = .none →
    fcsStep s = { s.drawStall.2 with
      dev := { s.dev.afterFrame with pending := some (.program ((List.range s.fcs.seqlen.toNat).map fun k =>
        (s.fcs.seqaddr.toNat + k, bufGet s.seqbuf k))) }
      fcs := { s.fcs with rbytes := [], err := .none, failstep := .idle, step := .idle, busy := false,
                          doneFlag := true }
      bpe := { s.bpe with intflag := s.bpe.intflag ||| 0x00010000#32 } }

/-- On a matched device at rest, with accepted operands, a safe option and the turnaround the device expects, the MAIN
step of HIGH_SPEED_READ puts the array byte at SEQADDR + k into SEQBUF[k] for every k below SEQLEN and leaves the
others, feeds exactly those bytes to the CRC where SNOOP = 1, leaves the device as it was but for its reset-enable
record, and ends the command with ERR = 0. (41_sequencer.md R183, R155, R182, R184, 42_flash_commands.md R216, R232,
43_crc32.md R244) -/
def Obligations.ReadCommandReads : Prop :=
  ∀ s : State, s.matched → OpTable.wf s.cfg.devOps → s.busReady → s.atStep .highSpeedRead .main → s.dev.atRest →
    checkRead s.cfg s.fcs = .none → (s.fcs.seqparam.getLsbD 8 = true → safeOption s.cfg (fRead s) = true) →
    turnaround (fRead s) = devReadCycles s.cfg (fRead s).width s.dev.dcfg →
    let data : List Byte := (List.range s.fcs.seqlen.toNat).map fun k => flashRead s.dev.arr (s.fcs.seqaddr.toNat + k)
    (fcsStep s).dev = s.dev.afterFrame ∧
    (fcsStep s).fcs = { s.fcs with rbytes := data, err := .none, failstep := .idle, step := .idle, busy := false,
                                   doneFlag := true } ∧
    (∀ k, k < 256 → bufGet (fcsStep s).seqbuf k =
      if k < s.fcs.seqlen.toNat then flashRead s.dev.arr (s.fcs.seqaddr.toNat + k) else bufGet s.seqbuf k) ∧
    (fcsStep s).crc = (if s.crc.snoop then { s.crc with crcstate := crcFeed s.crc.crcstate data } else s.crc) ∧
    (fcsStep s).bpe = { s.bpe with intflag := s.bpe.intflag ||| 0x00010000#32 }

/-- On a matched device at rest in single mode, and on variant A with the write-enable latch set and a configuration
byte that selects quad mode, the MAIN step of ENABLE_QUAD_IO leaves both QUADACT and the device's own mode quad, the
address modes equal, and ERR = 0. (41_sequencer.md R175, R174, 42_flash_commands.md R224, R225,
70_reset_and_hazards.md R326) -/
def Obligations.QuadEnableKeepsModes : Prop :=
  ∀ s : State, s.matched → OpTable.wf s.cfg.devOps → s.busReady → s.atStep .enableQuadIo .main → s.dev.atRest →
    s.fcs.quadact = false →
    (s.cfg.variant = .A → s.dev.wel = true ∧ s.cfg.ops.evcrQuad ∈ s.cfg.quadEvcr) →
    (fcsStep s).fcs.quadact = true ∧ (fcsStep s).dev.qpi = true ∧ (fcsStep s).modesAgree ∧
    (fcsStep s).fcs.err = .none ∧ (fcsStep s).fcs.busy = false ∧ (fcsStep s).dev.arr = s.dev.arr

/-- With chip select free and the device idle, a DEV.WREN frame of the right shape that moves no data sets the
write-enable latch, clears the reset-enable record, reads no byte, and changes nothing else. That a data kind which
moves no byte counts as no data is the model's reading (notes/assumptions/12.md). (42_flash_commands.md R211, R212,
R213, notes/assumptions/12.md) -/
def Obligations.DevWriteEnable : Prop :=
  ∀ (b : BusBody) (s : State), OpTable.wf s.cfg.devOps → s.bpe.csact = false → s.dev.pending = none →
    commandShape s.dev false 0#4 (b.withOpcode s.cfg.devOps.wren).frame = true → bodyEmpty b = true →
    exec (.devWren b) s = .next { s with dev := { s.dev.afterFrame with wel := true }, resp := .bytes [] }

/-- With chip select free, every byte of a DEV.RDSR frame of the right shape has WIP equal to busy and WEL equal to
the latch, the other bits free; nothing of the device changes but the reset-enable record. (42_flash_commands.md R214,
R201, R212, R216) -/
def Obligations.DevStatusRead : Prop :=
  ∀ (b : BusBody) (s : State), OpTable.wf s.cfg.devOps → s.cfg.wipBit ≠ s.cfg.welBit → s.bpe.csact = false →
    commandShape s.dev false (if s.dev.qpi then s.cfg.devOps.dummyRdsrQ else 0#4)
      (b.withOpcode s.cfg.devOps.rdsr).frame = true → b.shape.kind.isRead = true →
    ∃ l : List Byte, exec (.devRdsr b) s
        = .next { s with dev := s.dev.afterFrame, draws := s.draws + b.nIn, resp := .bytes l } ∧
      l.length = b.nIn ∧ ∀ x ∈ l, x.getLsbD s.cfg.wipBit.val = s.dev.pending.isSome ∧
        x.getLsbD s.cfg.welBit.val = s.dev.wel

/-- With chip select free and the device idle, a DEV.RDID frame in single mode and a DEV.RDID_Q frame in quad mode, of
the right shape, read the three identity bytes and then free ones; nothing of the device changes but the reset-enable
record. (42_flash_commands.md R215, R212, R213) -/
def Obligations.DevIdentityRead : Prop :=
  ∀ (b : BusBody) (s : State), OpTable.wf s.cfg.devOps → s.bpe.csact = false → s.dev.pending = none →
    b.shape.kind.isRead = true →
    let answers (o : Host.Outcome State Fault Refusal) : Prop := ∃ l : List Byte,
      o = .next { s with dev := s.dev.afterFrame, draws := s.draws + b.nIn, resp := .bytes l } ∧ l.length = b.nIn ∧
        l.take 3 = [s.cfg.devId.mfr, s.cfg.devId.typ, s.cfg.devId.capid].take b.nIn
    (s.dev.qpi = false → commandShape s.dev false 0#4 (b.withOpcode s.cfg.devOps.rdid).frame = true →
      answers (exec (.devRdid b) s)) ∧
    (s.dev.qpi = true →
      commandShape s.dev false s.cfg.devOps.dummyRdidQ (b.withOpcode s.cfg.devOps.rdidQ).frame = true →
      answers (exec (.devRdidQ b) s))

/-- With chip select free and the device idle, each read row at its own width, with an address of the device's width,
no option or a safe one, and the turnaround the device expects, reads the array bytes from the sent address on, modulo
the capacity; with another turnaround it reads free bytes. Nothing of the device changes but the reset-enable record.
With an unsafe option the device state is arbitrary; that the bytes are free and that the device changes at the end of
the frame is the model's reading (notes/assumptions/14.md). In quad mode DEV.READ_111 stands for the 4-4-4 read. That
the reset-enable record is cleared after an arbitrary state too is the model's literal reading
(notes/assumptions/10.md). That the cycles of an option which does not fill whole cycles are rounded down is the
model's choice (notes/assumptions/29.md). (42_flash_commands.md R216, R213, R223, R202, notes/assumptions/14.md,
notes/assumptions/10.md, notes/assumptions/29.md) -/
def Obligations.DevArrayRead : Prop :=
  ∀ (i : Instr) (w : WidthCode) (b : BusBody) (s : State),
    (i, w) ∈ [(Instr.devRead111 b, WidthCode.w111), (.devRead112 b, .w112), (.devRead114 b, .w114),
              (.devRead122 b, .w122), (.devRead144 b, .w144), (.devRead111 b, .w444)] →
    OpTable.wf s.cfg.devOps → s.bpe.csact = false → s.dev.pending = none → (s.dev.qpi = true ↔ w = .w444) →
    b.shape.width = w → b.shape.addrEn = true → b.shape.addr32 = s.dev.addr4 → b.shape.kind.isRead = true →
    let isSafe : Prop := b.shape.optEn = true → safeOption s.cfg (b.withOpcode 0#8).frame = true
    let turns : Prop := turnaround (b.withOpcode 0#8).frame = devReadCycles s.cfg w s.dev.dcfg
    (isSafe → turns → exec i s = .next { s with
      dev := s.dev.afterFrame
      draws := s.draws + b.nIn
      resp := .bytes ((List.range b.nIn).map fun k =>
        flashRead s.dev.arr ((b.shape.sentAddr + k) % s.cfg.capacity)) }) ∧
    (isSafe → ¬ turns → ∃ l : List Byte, l.length = b.nIn ∧ exec i s = .next { s with
      dev := s.dev.afterFrame, draws := s.draws + b.nIn, resp := .bytes l }) ∧
    (¬ isSafe → ∃ l : List Byte, l.length = b.nIn ∧ exec i s = .next { s with
      dev := { s.dev.arbitrary s.cfg (s.draws + b.nIn) with rsten := false, cur := none }
      draws := s.draws + b.nIn + 1
      resp := .bytes l })

/-- With chip select free and the device idle, a DEV.SE frame of the right shape without data starts the erase of the
sector of its address modulo the capacity, and a DEV.PP frame starts the program of its bytes from its address on,
wrapping inside the page, of which only the last PAGE_SIZE are kept; with the latch clear, or with no byte to program,
neither has an effect but on the reset-enable record. That a data kind which moves no byte counts as no data is the
model's reading (notes/assumptions/12.md). (42_flash_commands.md R217, R218, R223, R213, notes/assumptions/12.md) -/
def Obligations.DevEraseProgramStart : Prop :=
  ∀ (b : BusBody) (s : State), OpTable.wf s.cfg.devOps → s.bpe.csact = false → s.dev.pending = none →
    let a := b.shape.sentAddr
    let base := a % s.cfg.capacity - a % s.cfg.capacity % s.cfg.pageSize
    let skip := b.out.length - s.cfg.pageSize
    let quiet : Host.Outcome State Fault Refusal := .next { s with dev := s.dev.afterFrame, resp := .bytes [] }
    let starts (p : Pending) : Host.Outcome State Fault Refusal :=
      .next { s with dev := { s.dev.afterFrame with pending := some p }, resp := .bytes [] }
    (commandShape s.dev true 0#4 (b.withOpcode s.cfg.devOps.se).frame = true → bodyEmpty b = true →
      exec (.devSe b) s = if s.dev.wel then starts (.erase (a % s.cfg.capacity / s.cfg.sectorSize)) else quiet) ∧
    (commandShape s.dev true 0#4 (b.withOpcode s.cfg.devOps.pp).frame = true → b.shape.kind.isWrite = true →
      exec (.devPp b) s = if s.dev.wel = true ∧ b.out ≠ [] then
          starts (.program ((List.range (b.out.length - skip)).map fun k =>
            (base + (a % s.cfg.pageSize + (skip + k)) % s.cfg.pageSize, b.out[skip + k]?.getD 0#8)))
        else quiet)

/-- With chip select free, a DEV.RSTEN frame of the right shape sets the reset-enable record and nothing else; a
DEV.RST frame right after it clears the device's modes and latch and gives up an operation in progress, whose target
sector or page alone takes arbitrary values; without it DEV.RST does nothing but clear the record. Both work on a busy
device. That a data kind which moves no byte counts as no data is the model's reading (notes/assumptions/12.md). That
an abandoned program scrambles every page of its bytes is another (notes/assumptions/19.md). (42_flash_commands.md
R211, R222, R213, notes/assumptions/12.md, notes/assumptions/19.md) -/
def Obligations.DevResetPair : Prop :=
  ∀ (b : BusBody) (s : State), OpTable.wf s.cfg.devOps → s.bpe.csact = false →
    Memory.wf s.cfg.capacity s.dev.arr → bodyEmpty b = true →
    (commandShape s.dev false 0#4 (b.withOpcode s.cfg.devOps.rsten).frame = true →
      exec (.devRsten b) s = .next { s with dev := { s.dev with rsten := true, cur := none }, resp := .bytes [] }) ∧
    (commandShape s.dev false 0#4 (b.withOpcode s.cfg.devOps.rst).frame = true →
      (s.dev.rsten = false → exec (.devRst b) s = .next { s with dev := s.dev.afterFrame, resp := .bytes [] }) ∧
      (s.dev.rsten = true → ∃ arr : FlashMem,
        exec (.devRst b) s = .next { s with
          dev := { arr := arr, pending := none, wel := false, qpi := false, addr4 := false, rsten := false,
                   dcfg := 15#4, cur := none }
          draws := s.draws + 1
          resp := .bytes [] } ∧
        (s.dev.pending = none → arr = s.dev.arr) ∧
        ∀ (op : Pending) (x : Nat), s.dev.pending = some op → x ∉ op.region s.cfg →
          flashRead arr x = flashRead s.dev.arr x))

/-- With chip select free and the device idle: on variant B a single-mode DEV.EQIO frame sets quad mode; on variant A
a single-mode DEV.WREVCR frame with the quad byte clears the latch and sets quad mode where the device takes that byte
for quad, and a DEV.WRVCR frame with the right low nibble clears the latch and sets the dummy configuration; another
byte leaves the device arbitrary; with the latch clear the last two change nothing, whatever the byte. That a data
kind which moves no byte counts as no data is the model's reading (notes/assumptions/12.md). That the reset-enable
record is cleared after an arbitrary state too is the model's literal reading (notes/assumptions/10.md).
(42_flash_commands.md R224, R225, R226, R213, notes/assumptions/12.md, notes/assumptions/10.md) -/
def Obligations.DevQuadAndDummyConfig : Prop :=
  ∀ (b : BusBody) (e : Byte) (s : State), OpTable.wf s.cfg.devOps → s.bpe.csact = false → s.dev.pending = none →
    let quiet : Host.Outcome State Fault Refusal := .next { s with dev := s.dev.afterFrame, resp := .bytes [] }
    let havoc : Host.Outcome State Fault Refusal := .next { s with
      dev := { s.dev.arbitrary s.cfg s.draws with rsten := false, cur := none }, draws := s.draws + 1
      resp := .bytes [] }
    (s.cfg.devVariant = .B → s.dev.qpi = false → bodyEmpty b = true →
      commandShape s.dev false 0#4 (b.withOpcode s.cfg.devOps.eqio).frame = true →
      exec (.devEqio b) s = .next { s with dev := { s.dev.afterFrame with qpi := true }, resp := .bytes [] }) ∧
    (s.cfg.devVariant = .A → b.shape.kind.isWrite = true → b.out = [e] →
      (s.dev.qpi = false → commandShape s.dev false 0#4 (b.withOpcode s.cfg.devOps.wrevcr).frame = true →
        exec (.devWrevcr b) s = if s.dev.wel then
            (if e = s.cfg.devOps.evcrQuad then .next { s with
              dev := { s.dev.afterFrame with wel := false, qpi := decide (e ∈ s.cfg.quadEvcr) }, resp := .bytes [] }
            else havoc)
          else quiet) ∧
      (commandShape s.dev false 0#4 (b.withOpcode s.cfg.devOps.wrvcr).frame = true →
        exec (.devWrvcr b) s = if s.dev.wel then
            (if e.extractLsb' 0 4 = s.cfg.devOps.vcrLow then .next { s with
              dev := { s.dev.afterFrame with wel := false, dcfg := e.extractLsb' 4 4 }, resp := .bytes [] }
            else havoc)
          else quiet))

/-- With chip select free and an idle variant-A device, a DEV.EN4B or DEV.EX4B frame of the right shape without data
sets the address mode to 32 or 24 bits and clears the latch if the latch was set, and otherwise changes nothing but
the reset-enable record. That a data kind which moves no byte counts as no data is the model's reading
(notes/assumptions/12.md). (42_flash_commands.md R227, R213, notes/assumptions/12.md) -/
def Obligations.DevAddressMode : Prop :=
  ∀ (i : Instr) (op : Byte) (on : Bool) (b : BusBody) (s : State),
    (i, op, on) ∈ [(.devEn4b b, s.cfg.devOps.en4b, true), (.devEx4b b, s.cfg.devOps.ex4b, false)] →
    OpTable.wf s.cfg.devOps → s.bpe.csact = false → s.dev.pending = none → s.cfg.devVariant = .A →
    commandShape s.dev false 0#4 (b.withOpcode op).frame = true → bodyEmpty b = true →
    exec i s = .next { s with
      dev := if s.dev.wel then { s.dev.afterFrame with addr4 := on, wel := false } else s.dev.afterFrame
      resp := .bytes [] }

/-- With chip select free and a frame sent at the device's own command width, a busy device ignores every opcode but
those of the status read, reset-enable and reset, and an idle device ignores an opcode that its variant and mode do
not have: nothing of it changes but the reset-enable record, and any bytes read are free. With distinct opcodes these
are OP_EQIO on variant A and in quad mode, OP_WREVCR on variant B and in quad mode, OP_WRVCR, OP_EN4B and OP_EX4B on
variant B, OP_RDID and the reads of widths 1 to 4 in quad mode, OP_RDID_Q in single mode, OP_READ(0) in quad mode and
OP_READ(6) in single mode where the two differ, and every byte that is no opcode. (42_flash_commands.md R212, R216,
R231, R213) -/
def Obligations.UndecodedFramesIgnored : Prop :=
  ∀ (f : BusFrame) (s : State), s.bpe.csact = false → f.frame.width.cmdLanes = (if s.dev.qpi then 4 else 1) →
    let t := s.cfg.devOps
    let op := f.frame.instr
    let missing : Prop :=
      (op = t.eqio ∧ (s.cfg.devVariant = .A ∨ s.dev.qpi = true)) ∨
      (op = t.wrevcr ∧ (s.cfg.devVariant = .B ∨ s.dev.qpi = true)) ∨
      (op ∈ [t.wrvcr, t.en4b, t.ex4b] ∧ s.cfg.devVariant = .B) ∨
      (op ∈ [t.rdid, t.read112, t.read114, t.read122, t.read144] ∧ s.dev.qpi = true) ∨
      (op = t.rdidQ ∧ s.dev.qpi = false) ∨
      (op = t.read111 ∧ s.dev.qpi = true ∧ t.read444 ≠ t.read111) ∨
      (op = t.read444 ∧ s.dev.qpi = false ∧ t.read444 ≠ t.read111) ∨
      (op ∉ t.bytes ∧ op ≠ t.read444)
    ((s.dev.pending.isSome = true ∧ op ≠ t.rdsr ∧ op ≠ t.rsten ∧ op ≠ t.rst) ∨
      (s.dev.pending = none ∧ devLookup s.cfg s.dev.qpi op = none) ∨
      (s.dev.pending = none ∧ OpTable.wf t ∧ missing)) →
    ∃ l : List Byte, l.length = (if f.frame.kind.isRead then f.nIn else 0) ∧
      busDeliver f s = { s with dev := s.dev.afterFrame, draws := s.draws + l.length, resp := .bytes l }

/-- When the device completes a sector erase without a silent failure, every byte of that sector reads FF and every
other byte reads as before. When it completes an erase or a program with a silent failure, every target byte in the
array takes a free value and every other byte reads as before. In both cases the device is idle with its latch clear,
and nothing else of the machine changes but the draws. A busy device that draws no finish only uses up the draw, and
an idle one does nothing. (42_flash_commands.md R219, R220, 20_memory.md R61, R62) -/
def Obligations.EraseCompletes : Prop :=
  (∀ (s : State) (k : Nat), Memory.wf s.cfg.capacity s.dev.arr → s.dev.pending = some (.erase k) →
    s.drawFinish.1 = true → s.drawFinish.2.drawSilent.1 = false →
    ∃ (arr : FlashMem) (n : Nat),
      devStep s = { s with dev := { s.dev with arr := arr, pending := none, wel := false }, draws := n } ∧
      ∀ x, flashRead arr x =
        if k * s.cfg.sectorSize ≤ x ∧ x < k * s.cfg.sectorSize + s.cfg.sectorSize then 0xFF#8
        else flashRead s.dev.arr x) ∧
  (∀ (s : State) (op : Pending), Memory.wf s.cfg.capacity s.dev.arr → s.dev.pending = some op →
    let isTarget (x : Nat) : Prop := x < s.cfg.capacity ∧
      match op with
      | .erase k => k * s.cfg.sectorSize ≤ x ∧ x < k * s.cfg.sectorSize + s.cfg.sectorSize
      | .program pairs => ∃ b, (x, b) ∈ pairs
    ∃ (arr : FlashMem) (n m : Nat),
      devStep s = (if s.drawFinish.1 = false then { s with draws := s.draws + 1 }
        else if s.drawFinish.2.drawSilent.1 = false then s.drawFinish.2.drawSilent.2.devComplete op false
        else { s with dev := { s.dev with arr := arr, pending := none, wel := false }, draws := n }) ∧
      ∀ x, (isTarget x → flashRead arr x = Config.freeByte m x) ∧
        (¬ isTarget x → flashRead arr x = flashRead s.dev.arr x)) ∧
  (∀ s : State, s.dev.pending = none → devStep s = s)

/-- When the device completes a program without a silent failure, every byte of the array is the byte it was, ANDed
with each data byte destined for its address, so a byte with none is as before; the device is idle with its latch
clear, and nothing else of the machine changes but the draws. (R221) -/
def Obligations.ProgramCompletes : Prop :=
  ∀ (s : State) (pairs : List (Nat × Byte)), Memory.wf s.cfg.capacity s.dev.arr →
    s.dev.pending = some (.program pairs) → s.drawFinish.1 = true → s.drawFinish.2.drawSilent.1 = false →
    ∃ (arr : FlashMem) (n : Nat),
      devStep s = { s with dev := { s.dev with arr := arr, pending := none, wel := false }, draws := n } ∧
      ∀ x, x < s.cfg.capacity →
        flashRead arr x = (pairs.filter fun y => y.1 == x).foldl (fun b y => b &&& y.2) (flashRead s.dev.arr x)

/-- At reset every register reads 0 but SEQSTATUS, which is VARIANT in bit 24 (1 for the variant-B build of the reset
state, notes/assumptions/2.md), and CRCSTATE, which is all ones; INSTRFRAME and CRCRESULT read 0 and CRCSTATUS 1; the
frame machine and the sequencer are IDLE, the fault record is empty and the interrupt output is 0. In every state
STATUS holds ENABLE, FRAMESTATE, CSACT and SEQBUSY and SEQSTATUS holds BUSY, DONE, ERR, STATE, FAILSTEP, QUADACT,
ADDR4 and VARIANT at their places and with their codes, and all their other bits are 0. In every state a 4-byte read
at each of these offsets is the read of its register, answers that register's value, and changes nothing but the
answer; CRCDATA reads 0 at every width. (10_state.md R22, R29, R39, R40, R41, R47, R48, 20_memory.md R70,
60_exceptions.md R294, 41_sequencer.md R152, 70_reset_and_hazards.md R320, notes/assumptions/2.md) -/
def Obligations.ResetRegisterValues : Prop :=
  (∀ r : ReadReg, r ≠ .seqstatus → r ≠ .crcstate → regValue State.reset r = 0#32) ∧
  regValue State.reset .seqstatus = 0x01000000#32 ∧ regValue State.reset .crcstate = 0xFFFFFFFF#32 ∧
  State.reset.bpe.instrframe = 0#32 ∧ State.reset.crc.result = 0#32 ∧ State.reset.crc.status = 1#32 ∧
  State.reset.bpe.fstate = .idle ∧ State.reset.bpe.syncPending = false ∧ State.reset.fcs.step = .idle ∧
  State.reset.fcs.busy = false ∧ State.reset.fcs.quadact = false ∧ State.reset.fcs.addr4 = false ∧
  State.reset.faults = [] ∧ State.reset.irq = false ∧
  (∀ (v : Word) (s : State),
    let frameState : BitVec 2 := match s.bpe.fstate with
      | .idle => 0 | .armed => 1 | .opened => 2 | .running => 3
    let csact : Bool := decide (s.bpe.fstate = .opened ∨ s.bpe.fstate = .running)
    let code (st : SeqStep) : BitVec 4 := match st with
      | .idle => 0 | .check => 1 | .wren => 2 | .pollWel => 3 | .main => 4 | .main2 => 5 | .pollWip => 6
    let err : BitVec 3 := match s.fcs.err with
      | .none => 0 | .busTimeout => 1 | .deviceNotReady => 2 | .unsupported => 3 | .capacityExceeded => 4
      | .invalidParameter => 5
    let status : Word := 0#15 ++ BitVec.ofBool s.fcs.busy ++ 0#6 ++ BitVec.ofBool csact ++ 0#3 ++ frameState ++ 0#2
      ++ BitVec.ofBool s.bpe.enable ++ 0#1
    let seqstatus : Word := 0#7 ++ BitVec.ofBool (decide (s.cfg.variant = .B)) ++ 0#6 ++ BitVec.ofBool s.fcs.addr4
      ++ BitVec.ofBool s.fcs.quadact ++ code s.fcs.failstep ++ code s.fcs.step ++ 0#1 ++ err ++ 0#2
      ++ BitVec.ofBool s.fcs.doneFlag ++ BitVec.ofBool s.fcs.busy
    ∀ x ∈ [(0x000#32, ReadReg.ctrla, if s.bpe.enable then 2#32 else 0#32), (0x004#32, .ctrlb, s.bpe.ctrlb),
        (0x008#32, .baud, s.bpe.baud), (0x014#32, .intenclr, s.bpe.inten), (0x018#32, .intenset, s.bpe.inten),
        (0x01C#32, .intflag, s.bpe.intflag), (0x020#32, .status, status), (0x030#32, .instraddr, s.bpe.instraddr),
        (0x034#32, .instrctrl, s.bpe.instrctrl), (0x080#32, .seqctrl, 0#28 ++ s.fcs.seqctrl),
        (0x084#32, .seqaddr, s.fcs.seqaddr), (0x088#32, .seqlen, 0#23 ++ s.fcs.seqlen),
        (0x08C#32, .seqparam, s.fcs.seqparam), (0x090#32, .seqbudget, s.fcs.seqbudget),
        (0x094#32, .seqstatus, seqstatus), (0x098#32, .seqsr, 0#24 ++ s.fcs.seqsr), (0x09C#32, .seqid, s.fcs.seqid),
        (0x0C0#32, .crcctrl, if s.crc.snoop then 2#32 else 0#32), (0x0C4#32, .crcdata, 0#32),
        (0x0C8#32, .crcstate, s.crc.crcstate), (0x0D0#32, .crcexpect, s.crc.crcexpect)],
      decodeHost { dir := .read, size := 4, space := .regs, off := x.1, value := v } = .plain (.readReg x.2.1) ∧
      regValue s x.2.1 = x.2.2 ∧ execPlain (.readReg x.2.1) s = { s with resp := .data x.2.2 }) ∧
  (∀ (n : AccessSize) (v : Word),
    decodeHost { dir := .read, size := n.bytes, space := .regs, off := 0x0C4#32, value := v } = .plain (.readReg .crcdata))

/-- A 4-byte access at the offset of a storage register is its write or read. A write that is taken stores the written
value with its reserved bits 0 in that one register, is accepted, and changes nothing else of the machine; the
register then reads that value and every other register reads as before. CTRLB and BAUD take every write. The four
operand registers of the sequencer refuse a write with SequencerBusy while a command runs, and take it otherwise, in a
frame too. INSTRADDR and INSTRCTRL refuse it with SequencerBusy while a command runs, else with FrameBusy in a frame,
and take it otherwise. A refused write changes only the fault record and the answer. (10_state.md R23, R25, R26, R30,
R31, R35, R36, R37, R38, 40_bus_engine.md R124, 60_exceptions.md R291, 70_reset_and_hazards.md R333) -/
def Obligations.RegistersReadBack : Prop :=
  ∀ (off : Word) (r : WriteReg) (q : ReadReg) (mask v : Word) (s u : State),
    (off, r, q, mask, u) ∈ [
      (0x004#32, WriteReg.ctrlb, ReadReg.ctrlb, 0xFFFFFFFF#32, { s with bpe := { s.bpe with ctrlb := v } }),
      (0x008#32, .baud, .baud, 0xFFFFFFFF#32, { s with bpe := { s.bpe with baud := v } }),
      (0x030#32, .instraddr, .instraddr, 0xFFFFFFFF#32, { s with bpe := { s.bpe with instraddr := v } }),
      (0x034#32, .instrctrl, .instrctrl, 0x00FF00FF#32,
        { s with bpe := { s.bpe with instrctrl := v &&& 0x00FF00FF#32 } }),
      (0x084#32, .seqaddr, .seqaddr, 0xFFFFFFFF#32, { s with fcs := { s.fcs with seqaddr := v } }),
      (0x088#32, .seqlen, .seqlen, 0x000001FF#32, { s with fcs := { s.fcs with seqlen := v.extractLsb' 0 9 } }),
      (0x08C#32, .seqparam, .seqparam, 0x00FF07F7#32,
        { s with fcs := { s.fcs with seqparam := v &&& 0x00FF07F7#32 } }),
      (0x090#32, .seqbudget, .seqbudget, 0x80FFFFFF#32,
        { s with fcs := { s.fcs with seqbudget := v &&& 0x80FFFFFF#32 } })] →
    let t := execPlain (.writeReg r v) s
    let taken : Prop := t = { u with resp := .accepted } ∧ regValue t q = v &&& mask ∧
      (∀ q', q' ≠ q → regValue t q' = regValue s q')
    let refused (x : FaultReason) : Prop := t = { s with faults := insertReason x s.faults, resp := .busError x }
    decodeHost { dir := .write, size := 4, space := .regs, off := off, value := v } = .plain (.writeReg r v) ∧
    decodeHost { dir := .read, size := 4, space := .regs, off := off, value := v } = .plain (.readReg q) ∧
    (r ∈ [.ctrlb, .baud] → taken) ∧
    (r ∈ [.seqaddr, .seqlen, .seqparam, .seqbudget] →
      (s.fcs.busy = false → taken) ∧ (s.fcs.busy = true → refused .sequencerBusy)) ∧
    (r ∈ [.instraddr, .instrctrl] →
      (s.fcs.busy = true → refused .sequencerBusy) ∧
      (s.fcs.busy = false → s.bpe.fstate ≠ .idle → refused .frameBusy) ∧
      (s.fcs.busy = false → s.bpe.fstate = .idle → taken))

/-- An access of 1, 2 or 4 bytes at a multiple of its width inside the buffer is a SEQBUF access. With no command
running, a write puts byte k of the value, bits 8k+7 to 8k, into byte i + k of the buffer, a read answers the bytes in
the same order with zeros above them, a write followed by a read of the same bytes answers the written value cut to
its width, every other byte of the buffer is unchanged, and nothing else of the machine changes but the answer. While
a command runs every read and every write is refused with SequencerBusy, and only the fault record and the answer
change. (10_state.md R42, 20_memory.md R63, R67, 40_bus_engine.md R124) -/
def Obligations.SeqbufReadsBack : Prop :=
  ∀ (n : AccessSize) (i : Nat) (v : Word) (s : State), i + n.bytes ≤ 256 →
    (i % n.bytes = 0 →
      decodeHost { dir := .write, size := n.bytes, space := .regs, off := BitVec.ofNat 32 (0x100 + i), value := v }
        = .plain (.writeBuf n i (v &&& n.mask)) ∧
      decodeHost { dir := .read, size := n.bytes, space := .regs, off := BitVec.ofNat 32 (0x100 + i), value := v }
        = .plain (.readBuf n i)) ∧
    (s.fcs.busy = false →
      ∃ buf : Vector Byte 256, execPlain (.writeBuf n i v) s = { s with seqbuf := buf, resp := .accepted } ∧
        execPlain (.readBuf n i) { s with seqbuf := buf, resp := .accepted }
          = { s with seqbuf := buf, resp := .data (v &&& n.mask) } ∧
        (∀ k < n.bytes, bufGet buf (i + k) = v.extractLsb' (8 * k) 8) ∧
        ∀ j, (j < i ∨ i + n.bytes ≤ j) → bufGet buf j = bufGet s.seqbuf j) ∧
    (s.fcs.busy = false →
      ∃ w : Word, execPlain (.readBuf n i) s = { s with resp := .data w } ∧ w &&& n.mask = w ∧
        ∀ k < n.bytes, w.extractLsb' (8 * k) 8 = bufGet s.seqbuf (i + k)) ∧
    (s.fcs.busy = true → ∀ op ∈ [PlainOp.writeBuf n i v, .readBuf n i], execPlain op s = { s with
      faults := insertReason .sequencerBusy s.faults, resp := .busError .sequencerBusy })

/-- A read accepts the header that a write built for a payload that fits, with every field as written; and whatever
one of its 28 bytes is changed to, the read reports Corrupt. (44_object_store.md R262, R263, R273, R283, 43_crc32.md
R248) -/
def Obligations.HeaderSoundAndProtected : Prop :=
  ∀ (p : Params) (q : StoreParams) (a cap : Nat) (payload : List Byte) (tag ver : Word),
    q.wf → 1 ≤ payload.length → payload.length < 2 ^ 32 →
    (payload.length ≤ cap → a + 28 + payload.length ≤ p.capacity →
      readHeader p q a cap (buildHeader q payload tag ver).toBytes = .ok (buildHeader q payload tag ver)) ∧
    (∀ (k : Nat) (x : Byte), k < 28 → (buildHeader q payload tag ver).toBytes[k]? ≠ some x →
      readHeader p q a cap ((buildHeader q payload tag ver).toBytes.set k x) = .error .corrupt)

/-- No chunk of a program is empty or crosses a page, and the chunks in order put every byte of the string at its own
address, once. (44_object_store.md R268, R180) -/
def Obligations.ChunksStayInPage : Prop :=
  ∀ (page a : Nat) (l : List Byte), 0 < page →
    (∀ c ∈ chunks page a l, c.2 ≠ [] ∧ c.1 % page + c.2.length ≤ page) ∧
    (chunks page a l).flatMap (fun c => c.2.zipIdx.map fun x => (c.1 + x.2, x.1))
      = l.zipIdx.map fun x => (a + x.2, x.1)

/-- The accesses of a copy of any length at any offset are each aligned to their width, and the bytes they move, in
order, are those of the range, each once. (20_memory.md R68, R67, 30_encoding.md R104) -/
def Obligations.CopyPlanCovers : Prop :=
  ∀ o len : Nat,
    (∀ x ∈ copyPlan o len, x.1 % x.2.bytes = 0) ∧
    (copyPlan o len).flatMap (fun x => (List.range x.2.bytes).map (x.1 + ·)) = (List.range len).map (o + ·)

/-- While a host frame is open or running, each of the eighteen device rows is turned away and nothing but the answer
changes; that is the model's own choice (notes/assumptions/18.md), since the rules have at most one frame in flight.
(40_bus_engine.md R124, notes/assumptions/18.md) -/
def Obligations.ChipSelectHeld : Prop :=
  ∀ (b : BusBody) (i : Instr) (s : State), s.bpe.csact = true →
    i ∈ [.devWren b, .devRdsr b, .devRdid b, .devRdidQ b, .devSe b, .devPp b, .devRead111 b, .devRead112 b,
         .devRead114 b, .devRead122 b, .devRead144 b, .devRsten b, .devRst b, .devEqio b, .devWrevcr b, .devWrvcr b,
         .devEn4b b, .devEx4b b] →
    exec i s = .next { s with resp := .turnedAway }

/-- With chip select free: of a frame whose command lanes differ from the device's own, a device in single mode
ignores one of fewer than 8 cycles, and otherwise the device state is arbitrary. A frame at the right command width
that the device decodes as a row, but not of that row's shape, changes nothing if the row is a read, and otherwise
leaves the device state arbitrary. Any bytes read are free, and the reset-enable record is cleared, also after an
arbitrary state (the model's literal reading, notes/assumptions/10.md); the shape of a row is read as
notes/assumptions/12.md and 13.md say. That the cycles of an option which does not fill whole cycles are rounded down
is the model's choice (notes/assumptions/29.md). (42_flash_commands.md R212, R213, R230, R211, 70_reset_and_hazards.md
R327, notes/assumptions/10.md, notes/assumptions/12.md, notes/assumptions/13.md, notes/assumptions/29.md) -/
def Obligations.MisreadFrames : Prop :=
  ∀ (f : BusFrame) (s : State), s.bpe.csact = false →
    let moved : Nat := if f.frame.kind.isRead then f.nIn else if f.frame.kind.isWrite then f.out.length else 0
    let quiet (l : List Byte) : State :=
      { s with dev := s.dev.afterFrame, draws := s.draws + l.length, resp := .bytes l }
    let havoc (l : List Byte) : State := { s with
      dev := { s.dev.arbitrary s.cfg (s.draws + l.length) with rsten := false, cur := none }
      draws := s.draws + l.length + 1
      resp := .bytes l }
    (f.frame.width.cmdLanes ≠ (if s.dev.qpi then 4 else 1) →
      ∃ l : List Byte, l.length = (if f.frame.kind.isRead then f.nIn else 0) ∧
        busDeliver f s = if s.dev.qpi = false ∧ f.frame.cycles moved < 8 then quiet l else havoc l) ∧
    (∀ o : DevOp, f.frame.width.cmdLanes = (if s.dev.qpi then 4 else 1) →
      s.dev.pending = none ∨ passesBusy s.cfg f.frame.instr = true →
      devLookup s.cfg s.dev.qpi f.frame.instr = some o → rightShape s.cfg s.dev f.frame moved o = false →
      ∃ l : List Byte, l.length = (if f.frame.kind.isRead then f.nIn else 0) ∧
        busDeliver f s = if o.isRead then quiet l else havoc l)

/-- A power-on reset of the QFE gives every BPE, FCS and CRC register and hidden element its power-on value and SEQBUF
free bytes; the clock and the parameters stay. Where no host frame is stalled, a device that is not power-cycled is as
before, holding no frame, and one that is has the power-on state of its profile, by R229's values single mode, 24-bit
addresses, latches clear, dummy configuration 15 and no operation in progress, and, if it was idle, its array. A
stalled frame ends with an arbitrary device: one that is power-cycled with it then has that power-on state and an
arbitrary array. That the power cycle follows that end, and that an open or running frame which is not stalled is
dropped without an effect at the device, is the model's reading (notes/assumptions/22.md). That the fault record of a
machine in use is kept, by R54, is the model's reading too (notes/assumptions/25.md). That DEV_POWERON is a parameter,
with R229's values in the reset state, and says nothing of the array is the model's reading (notes/assumptions/32.md).
(70_reset_and_hazards.md R320, R336, 40_bus_engine.md R133, 42_flash_commands.md R202, R229, 10_state.md R42, R54,
notes/assumptions/22.md, notes/assumptions/25.md, notes/assumptions/32.md) -/
def Obligations.PowerOnResets : Prop :=
  let r229 : PowerOnDevice :=
    { pending := none, wel := false, qpi := false, addr4 := false, rsten := false, dcfg := 15#4 }
  (∀ v : Variant, (Params.default v).devPowerOn = r229) ∧
  ∀ (withDevice : Bool) (s : State),
    let t := s.powerOnReset withDevice
    let on := s.cfg.devPowerOn
    t.bpe = { enable := false, ctrlb := 0#32, baud := 0#32, inten := 0#32, intflag := 0#32, instraddr := 0#32,
              instrctrl := 0#32, instrframe := 0#32, fstate := .idle, stalled := false, syncPending := false,
              fdesc := none, faddr := 0#32, fnext := 0#32, fwdata := [], fread := 0 } ∧
    t.fcs = { seqctrl := 0#4, seqaddr := 0#32, seqlen := 0#9, seqparam := 0#32, seqbudget := 0#32, busy := false,
              doneFlag := false, err := .none, failstep := .idle, step := .idle, quadact := false, addr4 := false,
              seqsr := 0#8, seqid := 0#32, cmd := none, polls := 0#32, t0 := 0#32, rbytes := [] } ∧
    t.crc = { snoop := false, crcstate := 0xFFFFFFFF#32, crcexpect := 0#32 } ∧ t.faults = s.faults ∧ t.cfg = s.cfg ∧
    t.clk = s.clk ∧ t.irq = false ∧
    (∃ n, ∀ i, i < 256 → bufGet t.seqbuf i = Config.freeByte n i) ∧
    (withDevice = true →
      t.dev = { arr := t.dev.arr, pending := on.pending, wel := on.wel, qpi := on.qpi,
                addr4 := (if s.cfg.devVariant = .A then on.addr4 else false), rsten := on.rsten, dcfg := on.dcfg,
                cur := none } ∧
      (on = r229 →
        t.dev = { arr := t.dev.arr, pending := none, wel := false, qpi := false, addr4 := false, rsten := false,
                  dcfg := 15#4, cur := none }) ∧
      (s.bpe.stalled = false → s.dev.pending = none → t.dev.arr = s.dev.arr) ∧
      (s.bpe.stalled = true → ∃ n m, ∀ x, x < s.cfg.capacity →
        flashRead t.dev.arr x = Config.freeByte n x ∨ flashRead t.dev.arr x = Config.freeByte m x)) ∧
    (withDevice = false →
      (s.bpe.stalled = false → t.dev = { s.dev with cur := none }) ∧
      (s.bpe.stalled = true → t.dev = { s.dev.arbitrary s.cfg s.draws with cur := none }))
end

