-- ==== Sys2Proof/Machine/Fairness.lean ====
section
/-! DEFINITION. Infinite runs of the machine under a schedule, and the fairness of its agents (spec/60_exceptions.md
R305, R310, spec/41_sequencer.md R153, spec/42_flash_commands.md R219). -/

namespace Sys2Proof.Machine

/-- An infinite run under the schedule `a`: at moment `n` agent `a n` moves (R20, R310). -/
def IsRun (a : Nat → Agent) (r : Nat → State) : Prop := ∀ n, step { r n with sched := [a n] } = .next (r (n + 1))

/-- An agent has a step to take: the BPE while a frame runs and is not stalled (R133), the FCS while a command runs
(R153), the device while it is busy (R219), the clock always (R305). The host has no obligation (R310). -/
def Agent.enabled (x : Agent) (s : State) : Bool :=
  match x with
  | .host => false
  | .bpe => decide (s.bpe.fstate = .running) && !s.bpe.stalled
  | .fcs => s.fcs.busy
  | .device => s.dev.busy
  | .clock => true

/-- Weak fairness: again and again the agent is not enabled or takes its step. -/
def WeaklyFair (x : Agent) (a : Nat → Agent) (r : Nat → State) : Prop :=
  ∀ n, ∃ m, n ≤ m ∧ (x.enabled (r m) = false ∨ a m = x)

/-- The runs the spec admits (R310): the BPE, the FCS and the clock are weakly fair, so the clock never stops (R305), and
the device is where the model admits no hang (R219); the host has no obligation. -/
structure FairRun (a : Nat → Agent) (r : Nat → State) : Prop where
  isRun : IsRun a r
  bpe : WeaklyFair .bpe a r
  fcs : WeaklyFair .fcs a r
  clock : WeaklyFair .clock a r
  device : (r 0).cfg.devMayHang = false → WeaklyFair .device a r

end Sys2Proof.Machine
end

