-- ==== Sys2Proof/Laws/Fairness.lean ====
section
/-! SUPPORT. Fair runs: from every state there is one, and in each the clock ticks again and again (R305, R310). -/

namespace Sys2Proof.Machine

/-- The agents but the host, in turn. -/
def inTurn (n : Nat) : Agent :=
  match n % 4 with
  | 0 => .bpe
  | 1 => .fcs
  | 2 => .device
  | _ => .clock

/-- A scheduled agent that is not the host always answers a next state. -/
theorem step_scheduled {s : State} {x : Agent} (h : x ≠ .host) :
    ∃ t, step { s with sched := [x] } = .next t := by
  cases x with
  | host => exact absurd rfl h
  | bpe => exact ⟨_, rfl⟩
  | fcs => exact ⟨_, rfl⟩
  | device => exact ⟨_, rfl⟩
  | clock => exact ⟨_, rfl⟩

/-- From every state there is a fair run. -/
theorem fairRun_exists (s : State) : ∃ a r, r 0 = s ∧ FairRun a r := by
  have hne : ∀ n, inTurn n ≠ .host := fun n => by unfold inTurn; split <;> nofun
  let next (n : Nat) (t : State) : State := (step_scheduled (s := t) (hne n)).choose
  let r : Nat → State := fun n => n.rec s next
  have fair : ∀ x k, (∀ n, inTurn (4 * n + k) = x) → WeaklyFair x inTurn r := fun x k hk n =>
    ⟨4 * n + k, by omega, .inr (hk n)⟩
  refine ⟨inTurn, r, rfl, fun n => (step_scheduled (s := r n) (hne n)).choose_spec, fair _ 0 ?_, fair _ 1 ?_,
    fair _ 3 ?_, fun _ => fair _ 2 ?_⟩ <;> intro n <;> unfold inTurn
  · rw [show (4 * n + 0) % 4 = 0 by omega]; rfl
  · rw [show (4 * n + 1) % 4 = 1 by omega]; rfl
  · rw [show (4 * n + 3) % 4 = 3 by omega]; rfl
  · rw [show (4 * n + 2) % 4 = 2 by omega]; rfl

/-- In a fair run the clock never stops. -/
theorem fairRun_clock {a : Nat → Agent} {r : Nat → State} (h : FairRun a r) (n : Nat) :
    ∃ m, n ≤ m ∧ (r (m + 1)).clk = (r m).clk + 1#32 := by
  obtain ⟨m, hm, he⟩ := h.clock n
  have ha : a m = .clock := he.resolve_left nofun
  have hs := h.isRun m
  rw [ha] at hs
  exact ⟨m, hm, by rw [← Host.Outcome.next.inj hs]; rfl⟩

end Sys2Proof.Machine
end

