-- ==== Sys2Proof/Laws/Memory.lean ====
section
/-! SUPPORT. The flash array as memory: every operation keeps the canonical form, and a read after an operation. -/

namespace Sys2Proof.Machine

-- One theorem at a time: fewer threads at once, so less memory.
set_option Elab.async false

theorem wf_nil (cap : Nat) : Memory.wf cap [] := by simp [Memory.wf]

theorem wf_tail {cap : Nat} {c : Host.Cell} {m : FlashMem} (h : Memory.wf cap (c :: m)) : Memory.wf cap m := by
  simp only [Memory.wf, List.pairwise_cons, List.mem_cons] at h ⊢
  exact ⟨h.1.2, fun d hd => h.2 d (.inr hd)⟩

theorem flashInsert_mem {m : FlashMem} {a : Nat} {b : Byte} {c : Host.Cell} (h : c ∈ flashInsert m a b) :
    c ∈ m ∨ (c = (a, b) ∧ b ≠ erasedByte) := by
  induction m with
  | nil => unfold flashInsert at h; split at h <;> simp_all
  | cons d t ih =>
    obtain ⟨k, e⟩ := d
    unfold flashInsert at h
    split at h
    · split at h
      · exact .inl h
      · simp only [List.mem_cons] at h ⊢; tauto
    · split at h
      · split at h
        · exact .inl (List.mem_cons_of_mem _ h)
        · simp only [List.mem_cons] at h ⊢; tauto
      · simp only [List.mem_cons] at h ⊢
        rcases h with h | h
        · exact .inl (.inl h)
        · rcases ih h with h | h
          · exact .inl (.inr h)
          · exact .inr h

theorem flashInsert_wf {cap : Nat} {m : FlashMem} {a : Nat} {b : Byte} (h : Memory.wf cap m) (ha : a < cap) :
    Memory.wf cap (flashInsert m a b) := by
  refine ⟨?_, fun c hc => ?_⟩
  · induction m with
    | nil => unfold flashInsert; split <;> simp
    | cons d t ih =>
      obtain ⟨k, e⟩ := d
      have hp := List.pairwise_cons.1 h.1
      unfold flashInsert
      split
      · rename_i hak
        split
        · exact h.1
        · refine List.pairwise_cons.2 ⟨fun c hc => ?_, h.1⟩
          rcases List.mem_cons.1 hc with rfl | hc
          · exact hak
          · exact Nat.lt_trans hak (hp.1 c hc)
      · split
        · split
          · exact hp.2
          · rename_i hak _
            refine List.pairwise_cons.2 ⟨fun c hc => ?_, hp.2⟩
            have := hp.1 c hc
            simp_all
        · rename_i h1 h2
          refine List.pairwise_cons.2 ⟨fun c hc => ?_, ih (wf_tail h)⟩
          rcases flashInsert_mem hc with hc | ⟨rfl, -⟩
          · exact hp.1 c hc
          · show k < a; omega
  · rcases flashInsert_mem hc with hc | ⟨rfl, hb⟩
    · exact h.2 c hc
    · exact ⟨hb, ha⟩

theorem flashWrite_wf {cap : Nat} {m : FlashMem} {a : Nat} {b : Byte} (h : Memory.wf cap m) :
    Memory.wf cap (flashWrite cap m a b) := by
  unfold flashWrite; split
  · exact flashInsert_wf h ‹_›
  · exact h

theorem flashFill_wf {cap : Nat} {m : FlashMem} (vals : Nat → Byte) (lo n : Nat) (h : Memory.wf cap m) :
    Memory.wf cap (flashFill cap vals lo n m) := by
  induction n with
  | zero => exact h
  | succ n ih => exact flashWrite_wf ih

theorem flashErase_wf {cap : Nat} {m : FlashMem} (lo n : Nat) (h : Memory.wf cap m) :
    Memory.wf cap (flashErase m lo n) :=
  ⟨h.1.filter _, fun c hc => h.2 c (List.mem_of_mem_filter hc)⟩

theorem flashProgram_wf {cap : Nat} {m : FlashMem} (l : List (Nat × Byte)) (h : Memory.wf cap m) :
    Memory.wf cap (flashProgram cap m l) := by
  unfold flashProgram
  induction l generalizing m with
  | nil => exact h
  | cons p l ih => exact ih (flashWrite_wf h)

theorem flashScatter_wf {cap : Nat} {m : FlashMem} (vals : Nat → Byte) (l : List Nat) (h : Memory.wf cap m) :
    Memory.wf cap (flashScatter cap vals m l) := by
  unfold flashScatter
  induction l generalizing m with
  | nil => exact h
  | cons p l ih => exact ih (flashWrite_wf h)

theorem completedArr_wf {p : Params} {op : Pending} {m : FlashMem} (h : Memory.wf p.capacity m) :
    Memory.wf p.capacity (completedArr p op m) := by
  cases op with
  | erase k => exact flashErase_wf _ _ h
  | program l => exact flashProgram_wf l h

theorem abandonedArr_wf {p : Params} {n : Nat} {d : Dev} (h : Memory.wf p.capacity d.arr) :
    Memory.wf p.capacity (abandonedArr p n d) := by
  unfold abandonedArr; split
  · exact h
  · exact flashScatter_wf _ _ h

theorem arbitrary_arr_wf (p : Params) (n : Nat) (d : Dev) : Memory.wf p.capacity (d.arbitrary p n).arr :=
  flashFill_wf _ _ _ (wf_nil _)

theorem flashRead_below {m : FlashMem} {a : Nat} (h : ∀ c ∈ m, a < c.1) : flashRead m a = erasedByte := by
  induction m with
  | nil => rfl
  | cons c t ih =>
    obtain ⟨k, b⟩ := c
    have hk : a < k := h (k, b) (List.mem_cons_self ..)
    unfold flashRead
    rw [if_neg (by omega)]
    exact ih fun c hc => h c (List.mem_cons_of_mem _ hc)

/-- A read after a write of one byte. -/
theorem flashRead_insert {cap : Nat} {m : FlashMem} (a : Nat) (b : Byte) (x : Nat) (h : Memory.wf cap m) :
    flashRead (flashInsert m a b) x = if x = a then b else flashRead m x := by
  induction m with
  | nil =>
    unfold flashInsert
    split
    · rename_i hb; subst hb; simp [flashRead]
    · simp only [flashRead, eq_comm]
  | cons d t ih =>
    obtain ⟨k, e⟩ := d
    have hp := List.pairwise_cons.1 h.1
    unfold flashInsert
    split
    · rename_i hak
      have hbelow : ∀ c ∈ (k, e) :: t, a < c.1 := by
        intro c hc
        rcases List.mem_cons.1 hc with rfl | hc
        · exact hak
        · exact Nat.lt_trans hak (hp.1 c hc)
      split
      · rename_i hb
        by_cases hx : x = a
        · subst hx; rw [if_pos rfl, flashRead_below hbelow, hb]
        · rw [if_neg hx]
      · by_cases hx : x = a
        · subst hx; simp [flashRead]
        · rw [if_neg hx, flashRead, if_neg (fun hc => hx hc.symm)]
    · split
      · rename_i hak; subst hak
        have hbelow : ∀ c ∈ t, a < c.1 := fun c hc => hp.1 c hc
        split
        · rename_i hb
          by_cases hx : x = a
          · subst hx; rw [if_pos rfl, flashRead_below hbelow, hb]
          · rw [if_neg hx, flashRead.eq_2, if_neg (fun hc => hx hc.symm)]
        · by_cases hx : x = a
          · subst hx; simp [flashRead]
          · rw [if_neg hx, flashRead, if_neg (fun hc => hx hc.symm), flashRead.eq_2, if_neg (fun hc => hx hc.symm)]
      · rename_i h1 h2
        rw [flashRead.eq_2, flashRead.eq_2, ih (wf_tail h)]
        by_cases hk : k = x
        · subst hk; rw [if_pos rfl, if_pos rfl, if_neg (fun hc => h2 hc.symm)]
        · rw [if_neg hk, if_neg hk]

theorem flashRead_write {cap : Nat} {m : FlashMem} (a : Nat) (b : Byte) (x : Nat) (h : Memory.wf cap m) :
    flashRead (flashWrite cap m a b) x = if x = a ∧ a < cap then b else flashRead m x := by
  unfold flashWrite
  by_cases ha : a < cap
  · simp [ha, flashRead_insert a b x h]
  · simp [ha]

/-- An address outside the array reads as erased. -/
theorem flashRead_outside {cap : Nat} {m : FlashMem} {x : Nat} (h : Memory.wf cap m) (hx : cap ≤ x) :
    flashRead m x = erasedByte := by
  induction m with
  | nil => rfl
  | cons c t ih =>
    obtain ⟨k, b⟩ := c
    have hk := (h.2 (k, b) (List.mem_cons_self ..)).2
    rw [flashRead, if_neg (by have : k < cap := hk; omega)]
    exact ih (wf_tail h)

/-- A read after an erase (R220). -/
theorem flashRead_erase {cap : Nat} {m : FlashMem} (lo n x : Nat) (h : Memory.wf cap m) :
    flashRead (flashErase m lo n) x = if lo ≤ x ∧ x < lo + n then erasedByte else flashRead m x := by
  induction m with
  | nil => simp [flashErase, flashRead]
  | cons c t ih =>
    obtain ⟨k, b⟩ := c
    have ih := ih (wf_tail h)
    have hp := List.pairwise_cons.1 h.1
    unfold flashErase at ih ⊢
    rw [List.filter_cons]
    split
    · rename_i hd
      simp only [decide_eq_true_eq] at hd
      rw [flashRead, flashRead.eq_2, ih]
      by_cases hk : k = x
      · subst hk; rw [if_pos rfl, if_pos rfl, if_neg (by omega)]
      · rw [if_neg hk, if_neg hk]
    · rename_i hd
      simp only [decide_eq_true_eq] at hd
      rw [ih, flashRead.eq_2]
      by_cases hk : k = x
      · subst hk; rw [if_pos (by omega), if_pos (by omega)]
      · rw [if_neg hk]

end Sys2Proof.Machine
end

