-- ==== Sys2Proof/Machine/HostRun.lean ====
section
/-! DEFINITION. The host's programs run against the machine, access by access, and the object store on the machine and on
the ideal flash of R283's premise (spec/30_encoding.md R103 to R105, spec/44_object_store.md R261, R283;
notes/assumptions/30.md). -/

namespace Sys2Proof.Machine

/-! ## Host accesses between the other agents' moves (R103) -/

/-- A move of an agent that is not the host. -/
def agentMove (s : State) (a : Agent) : State :=
  match a with
  | .host => s
  | .bpe => bpeStep s
  | .fcs => fcsStep s
  | .device => devStep s
  | .clock => clockStep s

/-- The host makes one access; a refused one is an access like another, and one outside the QFE's address ranges changes
nothing and has no answer (notes/assumptions/31.md). -/
def hostAccess (l : HostLine) (s : State) : State :=
  match deliver (fetch s.cfg (l.input s.cfg)) s with
  | .next t => t
  | .fault _ => { s with resp := .none }
  | .refused _ => { s with resp := .none }

/-- The value a read answered; 0 where there is none, after a bus error too (notes/assumptions/31.md). -/
def Response.word : Response → Word
  | .none => 0#32
  | .accepted => 0#32
  | .data v => v
  | .busError _ => 0#32
  | .bytes _ => 0#32
  | .turnedAway => 0#32

/-- A host program in progress: the machine, and which agents move before each access of the host, in order. -/
structure Session where
  machine : State
  turns : List (List Agent)
deriving DecidableEq, Repr

/-- The other agents take their turns, then the host makes its access. -/
def Session.access (l : HostLine) (x : Session) : Session where
  machine := hostAccess l ((x.turns.headD []).foldl agentMove x.machine)
  turns := x.turns.tail

/-- The value the last access read. -/
def Session.value (x : Session) : Word := x.machine.resp.word

/-- `POLL` (R103): whether the wanted value was read within `n` reads. -/
def Session.poll (off mask want : Word) (n : Nat) (x : Session) : Bool × Session :=
  match n with
  | 0 => (false, x)
  | n + 1 =>
    let y := x.access (.poll off mask want (n + 1))
    if pollDone mask want y.value then (true, y) else y.poll off mask want n

/-- A host program; it is left at the first POLL that expires (R103), and says so. A bus error does not leave it
(notes/assumptions/31.md). -/
def Session.lines (x : Session) : List HostLine → Bool × Session
  | [] => (true, x)
  | .write n sp off v :: rest => (x.access (.write n sp off v)).lines rest
  | .read n sp off :: rest => (x.access (.read n sp off)).lines rest
  | .poll off mask want n :: rest =>
    if (x.poll off mask want n).1 then (x.poll off mask want n).2.lines rest else (false, (x.poll off mask want n).2)

/-- The bytes a list of reads answers, in order. -/
def Session.collect (x : Session) : List HostLine → List Byte × Session
  | [] => ([], x)
  | l :: rest =>
    let y := x.access l
    let z := y.collect rest
    (leBytes l.tuple.size y.value ++ z.1, z.2)

/-! ## The object store on the machine (R261) -/

/-- The error of a code of SEQSTATUS.ERR (R294); 6 and 7 are never produced. -/
def ErrCode.ofCode (c : BitVec 3) : ErrCode :=
  match c.toNat with
  | 0 => .none
  | 1 => .busTimeout
  | 2 => .deviceNotReady
  | 3 => .unsupported
  | 4 => .capacityExceeded
  | _ => .invalidParameter

/-- A flash access on the machine: the `SEQ` line of R105, with `n` reads of SEQSTATUS at most, and after a successful
read the copy out of SEQBUF. A wait that expires counts as the host's timeout (notes/assumptions/30.md). -/
def Session.call (n : Nat) (c : FlashCall) (x : Session) : CallResult × Session :=
  let y := x.lines (c.lines n)
  if y.1 then
    if seqSucceeded y.2.value then
      ({ err := .none, data := (y.2.collect c.fetchLines).1 }, (y.2.collect c.fetchLines).2)
    else ({ err := ErrCode.ofCode (y.2.value.extractLsb' 4 3), data := [] }, y.2)
  else ({ err := .busTimeout, data := [] }, y.2)

/-- The object store's host on the machine, with `n` reads of SEQSTATUS at most for every command. -/
def Session.host (n : Nat) : FlashHost Session where
  call := Session.call n
  crcBegin v x := (x.access (w32 0x0C0#32 0x00000003#32)).access (w32 0x0D0#32 v)
  crcMatch x :=
    let y := x.access (.read .b4 .regs 0x0D4#32)
    (y.value.getLsbD 0, y)

/-! ## The ideal flash of R283's premise -/

/-- A flash whose every command has the effect its name says, with the CRC unit that snoops its reads. -/
structure IdealFlash where
  arr : FlashMem
  crc : Crc
deriving DecidableEq, Repr

/-- A flash access that has its effect at once (R217, R220, R221, R183, R244). -/
def idealCall (p : Params) (c : FlashCall) (s : IdealFlash) : CallResult × IdealFlash :=
  match c with
  | .erase a _ =>
    ({ err := .none, data := [] }, { s with arr := flashErase s.arr (sectorBase p (a / p.sectorSize)) p.sectorSize })
  | .waitReady _ => ({ err := .none, data := [] }, s)
  | .program a l _ =>
    ({ err := .none, data := [] },
      { s with arr := flashProgram p.capacity s.arr (l.zipIdx.map fun x => (a + x.2, x.1)) })
  | .read a n _ =>
    let l := (List.range n).map fun k => flashRead s.arr (a + k)
    ({ err := .none, data := l }, { s with crc := if s.crc.snoop then s.crc.feed l else s.crc })

/-- The object store's host on the ideal flash. -/
def idealHost (p : Params) : FlashHost IdealFlash where
  call := idealCall p
  crcBegin v s := { s with crc := { snoop := true, crcstate := 0xFFFFFFFF#32, crcexpect := v } }
  crcMatch s := (s.crc.isMatch, s)

end Sys2Proof.Machine
end

