-- ==== Sys2Proof/Laws/ObjectStore.lean ====
section
/-! SUPPORT. What the object store's operations can do, said once for every host of theirs (R266, R271, R272, R273,
R283). -/

namespace Sys2Proof.Machine

variable {σ : Type} (h : FlashHost σ)

/-- A finished write stays as it is, and acts on nothing (R271). -/
theorem writeRun_finished (n : Nat) {w : WriteRun} {s : σ} (ht : w.todo = []) (hc : w.close = w) :
    w.run h n s = (w, s) := by
  induction n with
  | zero => rfl
  | succ n ih => simp only [WriteRun.run, WriteRun.next, ht, hc, ih]

/-- A failed write issues no further command (R271). -/
theorem writeRun_fail (n : Nat) (e : StoreError) (w : WriteRun) (s : σ) :
    (w.fail e).run h n s = (w.fail e, s) := writeRun_finished h n rfl rfl

/-- A command that ends with an error fails the write with it (R261, R271). -/
theorem writeRun_ended_error {c : FlashCall} {r : CallResult} {e : StoreError} (w : WriteRun)
    (he : storeErrorOf r.err = some e) : w.ended c r = w.fail e := by
  unfold WriteRun.ended; rw [he]

/-- A write whose precondition fails ends with that error before any command (R266). -/
theorem writeObject_refused (p : Params) (q : StoreParams) (addr4 : Bool) (a : Nat) (payload : List Byte)
    (tag ver : Word) (s : σ) {e : StoreError} (hw : writeCheck p addr4 a payload.length = some e) :
    writeObject h p q addr4 a payload tag ver s = (.failed e, s) := by
  simp only [writeObject, writeStart, hw]
  rw [writeRun_finished h _ rfl rfl]

/-- A write that can begin begins in Idle (R265). -/
theorem writeStart_idle (p : Params) (q : StoreParams) (addr4 : Bool) (a : Nat) (payload : List Byte) (tag ver : Word)
    (hw : writeCheck p addr4 a payload.length = none) :
    (writeStart p q addr4 a payload tag ver).stage = .idle := by
  simp only [writeStart, hw]

/-- A read that the header's bytes end leaves the destination untouched (R272, R273, R283). -/
theorem readObject_header_error (p : Params) (q : StoreParams) (a : Nat) (dest : List Byte) (v : Verify) (s : σ)
    {e : StoreError} (hc : readCheck p a = none)
    (hok : storeErrorOf (h.call (.read a headerSize q.rdParam) s).1.err = none)
    (he : readHeader p q a dest.length (h.call (.read a headerSize q.rdParam) s).1.data = .error e) :
    readObject h p q a dest v s
      = ({ result := .error e, dest := dest }, (h.call (.read a headerSize q.rdParam) s).2) := by
  simp only [readObject, hc, hok, he]

/-- A read past the capacity issues no command (R272). -/
theorem readObject_capacity (p : Params) (q : StoreParams) (a : Nat) (dest : List Byte) (v : Verify) (s : σ)
    {e : StoreError} (hc : readCheck p a = some e) :
    readObject h p q a dest v s = ({ result := .error e, dest := dest }, s) := by
  simp only [readObject, hc]

/-- Erased header bytes give NotFound (R272). -/
theorem readHeader_erased (p : Params) (q : StoreParams) (a cap : Nat) {l : List Byte} (he : headerErased l = true) :
    readHeader p q a cap l = .error .notFound := by
  simp only [readHeader, he, if_true]

end Sys2Proof.Machine
end

