-- ==== Sys2Proof/Laws/State.lean ====
section
/-! SUPPORT. What each update of the state leaves alone and what it writes, field by field, so that no proof unfolds a
record update. -/

namespace Sys2Proof.Machine

/-! ### `nextDraw` -/

@[simp] theorem State.nextDraw_cfg (s : State) : (s.nextDraw).cfg = s.cfg := rfl
@[simp] theorem State.nextDraw_bpe (s : State) : (s.nextDraw).bpe = s.bpe := rfl
@[simp] theorem State.nextDraw_fcs (s : State) : (s.nextDraw).fcs = s.fcs := rfl
@[simp] theorem State.nextDraw_crc (s : State) : (s.nextDraw).crc = s.crc := rfl
@[simp] theorem State.nextDraw_seqbuf (s : State) : (s.nextDraw).seqbuf = s.seqbuf := rfl
@[simp] theorem State.nextDraw_dev (s : State) : (s.nextDraw).dev = s.dev := rfl
@[simp] theorem State.nextDraw_clk (s : State) : (s.nextDraw).clk = s.clk := rfl
@[simp] theorem State.nextDraw_faults (s : State) : (s.nextDraw).faults = s.faults := rfl
@[simp] theorem State.nextDraw_resp (s : State) : (s.nextDraw).resp = s.resp := rfl
@[simp] theorem State.nextDraw_inputs (s : State) : (s.nextDraw).inputs = s.inputs := rfl
@[simp] theorem State.nextDraw_sched (s : State) : (s.nextDraw).sched = s.sched := rfl

/-! ### `raiseFault` -/

@[simp] theorem State.raiseFault_cfg (r : FaultReason) (s : State) : (s.raiseFault r).cfg = s.cfg := rfl
@[simp] theorem State.raiseFault_bpe (r : FaultReason) (s : State) : (s.raiseFault r).bpe = s.bpe := rfl
@[simp] theorem State.raiseFault_fcs (r : FaultReason) (s : State) : (s.raiseFault r).fcs = s.fcs := rfl
@[simp] theorem State.raiseFault_crc (r : FaultReason) (s : State) : (s.raiseFault r).crc = s.crc := rfl
@[simp] theorem State.raiseFault_seqbuf (r : FaultReason) (s : State) : (s.raiseFault r).seqbuf = s.seqbuf := rfl
@[simp] theorem State.raiseFault_dev (r : FaultReason) (s : State) : (s.raiseFault r).dev = s.dev := rfl
@[simp] theorem State.raiseFault_clk (r : FaultReason) (s : State) : (s.raiseFault r).clk = s.clk := rfl
@[simp] theorem State.raiseFault_inputs (r : FaultReason) (s : State) : (s.raiseFault r).inputs = s.inputs := rfl
@[simp] theorem State.raiseFault_sched (r : FaultReason) (s : State) : (s.raiseFault r).sched = s.sched := rfl
@[simp] theorem State.raiseFault_draws (r : FaultReason) (s : State) : (s.raiseFault r).draws = s.draws := rfl

/-! ### `accept` -/

@[simp] theorem State.accept_cfg (s : State) : (s.accept).cfg = s.cfg := rfl
@[simp] theorem State.accept_bpe (s : State) : (s.accept).bpe = s.bpe := rfl
@[simp] theorem State.accept_fcs (s : State) : (s.accept).fcs = s.fcs := rfl
@[simp] theorem State.accept_crc (s : State) : (s.accept).crc = s.crc := rfl
@[simp] theorem State.accept_seqbuf (s : State) : (s.accept).seqbuf = s.seqbuf := rfl
@[simp] theorem State.accept_dev (s : State) : (s.accept).dev = s.dev := rfl
@[simp] theorem State.accept_clk (s : State) : (s.accept).clk = s.clk := rfl
@[simp] theorem State.accept_faults (s : State) : (s.accept).faults = s.faults := rfl
@[simp] theorem State.accept_inputs (s : State) : (s.accept).inputs = s.inputs := rfl
@[simp] theorem State.accept_sched (s : State) : (s.accept).sched = s.sched := rfl
@[simp] theorem State.accept_draws (s : State) : (s.accept).draws = s.draws := rfl

/-! ### `answer` -/

@[simp] theorem State.answer_cfg (v : Word) (s : State) : (s.answer v).cfg = s.cfg := rfl
@[simp] theorem State.answer_bpe (v : Word) (s : State) : (s.answer v).bpe = s.bpe := rfl
@[simp] theorem State.answer_fcs (v : Word) (s : State) : (s.answer v).fcs = s.fcs := rfl
@[simp] theorem State.answer_crc (v : Word) (s : State) : (s.answer v).crc = s.crc := rfl
@[simp] theorem State.answer_seqbuf (v : Word) (s : State) : (s.answer v).seqbuf = s.seqbuf := rfl
@[simp] theorem State.answer_dev (v : Word) (s : State) : (s.answer v).dev = s.dev := rfl
@[simp] theorem State.answer_clk (v : Word) (s : State) : (s.answer v).clk = s.clk := rfl
@[simp] theorem State.answer_faults (v : Word) (s : State) : (s.answer v).faults = s.faults := rfl
@[simp] theorem State.answer_inputs (v : Word) (s : State) : (s.answer v).inputs = s.inputs := rfl
@[simp] theorem State.answer_sched (v : Word) (s : State) : (s.answer v).sched = s.sched := rfl
@[simp] theorem State.answer_draws (v : Word) (s : State) : (s.answer v).draws = s.draws := rfl

/-! ### `flag` -/

@[simp] theorem State.flag_cfg (v : Word) (s : State) : (s.flag v).cfg = s.cfg := rfl
@[simp] theorem State.flag_fcs (v : Word) (s : State) : (s.flag v).fcs = s.fcs := rfl
@[simp] theorem State.flag_crc (v : Word) (s : State) : (s.flag v).crc = s.crc := rfl
@[simp] theorem State.flag_seqbuf (v : Word) (s : State) : (s.flag v).seqbuf = s.seqbuf := rfl
@[simp] theorem State.flag_dev (v : Word) (s : State) : (s.flag v).dev = s.dev := rfl
@[simp] theorem State.flag_clk (v : Word) (s : State) : (s.flag v).clk = s.clk := rfl
@[simp] theorem State.flag_faults (v : Word) (s : State) : (s.flag v).faults = s.faults := rfl
@[simp] theorem State.flag_resp (v : Word) (s : State) : (s.flag v).resp = s.resp := rfl
@[simp] theorem State.flag_inputs (v : Word) (s : State) : (s.flag v).inputs = s.inputs := rfl
@[simp] theorem State.flag_sched (v : Word) (s : State) : (s.flag v).sched = s.sched := rfl
@[simp] theorem State.flag_draws (v : Word) (s : State) : (s.flag v).draws = s.draws := rfl

/-! ### `havoc` -/

@[simp] theorem State.havoc_cfg (s : State) : (s.havoc).cfg = s.cfg := rfl
@[simp] theorem State.havoc_bpe (s : State) : (s.havoc).bpe = s.bpe := rfl
@[simp] theorem State.havoc_fcs (s : State) : (s.havoc).fcs = s.fcs := rfl
@[simp] theorem State.havoc_crc (s : State) : (s.havoc).crc = s.crc := rfl
@[simp] theorem State.havoc_seqbuf (s : State) : (s.havoc).seqbuf = s.seqbuf := rfl
@[simp] theorem State.havoc_clk (s : State) : (s.havoc).clk = s.clk := rfl
@[simp] theorem State.havoc_faults (s : State) : (s.havoc).faults = s.faults := rfl
@[simp] theorem State.havoc_resp (s : State) : (s.havoc).resp = s.resp := rfl
@[simp] theorem State.havoc_inputs (s : State) : (s.havoc).inputs = s.inputs := rfl
@[simp] theorem State.havoc_sched (s : State) : (s.havoc).sched = s.sched := rfl

/-! ### `devBegin` -/

@[simp] theorem State.devBegin_cfg (f : Frame) (s : State) : (s.devBegin f).cfg = s.cfg := rfl
@[simp] theorem State.devBegin_bpe (f : Frame) (s : State) : (s.devBegin f).bpe = s.bpe := rfl
@[simp] theorem State.devBegin_fcs (f : Frame) (s : State) : (s.devBegin f).fcs = s.fcs := rfl
@[simp] theorem State.devBegin_crc (f : Frame) (s : State) : (s.devBegin f).crc = s.crc := rfl
@[simp] theorem State.devBegin_seqbuf (f : Frame) (s : State) : (s.devBegin f).seqbuf = s.seqbuf := rfl
@[simp] theorem State.devBegin_clk (f : Frame) (s : State) : (s.devBegin f).clk = s.clk := rfl
@[simp] theorem State.devBegin_faults (f : Frame) (s : State) : (s.devBegin f).faults = s.faults := rfl
@[simp] theorem State.devBegin_resp (f : Frame) (s : State) : (s.devBegin f).resp = s.resp := rfl
@[simp] theorem State.devBegin_inputs (f : Frame) (s : State) : (s.devBegin f).inputs = s.inputs := rfl
@[simp] theorem State.devBegin_sched (f : Frame) (s : State) : (s.devBegin f).sched = s.sched := rfl
@[simp] theorem State.devBegin_draws (f : Frame) (s : State) : (s.devBegin f).draws = s.draws := rfl

/-! ### `devSent` -/

@[simp] theorem State.devSent_cfg (s : State) : (s.devSent).cfg = s.cfg := rfl
@[simp] theorem State.devSent_bpe (s : State) : (s.devSent).bpe = s.bpe := rfl
@[simp] theorem State.devSent_fcs (s : State) : (s.devSent).fcs = s.fcs := rfl
@[simp] theorem State.devSent_crc (s : State) : (s.devSent).crc = s.crc := rfl
@[simp] theorem State.devSent_seqbuf (s : State) : (s.devSent).seqbuf = s.seqbuf := rfl
@[simp] theorem State.devSent_clk (s : State) : (s.devSent).clk = s.clk := rfl
@[simp] theorem State.devSent_faults (s : State) : (s.devSent).faults = s.faults := rfl
@[simp] theorem State.devSent_resp (s : State) : (s.devSent).resp = s.resp := rfl
@[simp] theorem State.devSent_inputs (s : State) : (s.devSent).inputs = s.inputs := rfl
@[simp] theorem State.devSent_sched (s : State) : (s.devSent).sched = s.sched := rfl

/-! ### `devTake` -/

@[simp] theorem State.devTake_cfg (l : List Byte) (s : State) : (s.devTake l).cfg = s.cfg := rfl
@[simp] theorem State.devTake_bpe (l : List Byte) (s : State) : (s.devTake l).bpe = s.bpe := rfl
@[simp] theorem State.devTake_fcs (l : List Byte) (s : State) : (s.devTake l).fcs = s.fcs := rfl
@[simp] theorem State.devTake_crc (l : List Byte) (s : State) : (s.devTake l).crc = s.crc := rfl
@[simp] theorem State.devTake_seqbuf (l : List Byte) (s : State) : (s.devTake l).seqbuf = s.seqbuf := rfl
@[simp] theorem State.devTake_clk (l : List Byte) (s : State) : (s.devTake l).clk = s.clk := rfl
@[simp] theorem State.devTake_faults (l : List Byte) (s : State) : (s.devTake l).faults = s.faults := rfl
@[simp] theorem State.devTake_resp (l : List Byte) (s : State) : (s.devTake l).resp = s.resp := rfl
@[simp] theorem State.devTake_inputs (l : List Byte) (s : State) : (s.devTake l).inputs = s.inputs := rfl
@[simp] theorem State.devTake_sched (l : List Byte) (s : State) : (s.devTake l).sched = s.sched := rfl
@[simp] theorem State.devTake_draws (l : List Byte) (s : State) : (s.devTake l).draws = s.draws := rfl

/-! ### `devReset` -/

@[simp] theorem State.devReset_cfg (s : State) : (s.devReset).cfg = s.cfg := rfl
@[simp] theorem State.devReset_bpe (s : State) : (s.devReset).bpe = s.bpe := rfl
@[simp] theorem State.devReset_fcs (s : State) : (s.devReset).fcs = s.fcs := rfl
@[simp] theorem State.devReset_crc (s : State) : (s.devReset).crc = s.crc := rfl
@[simp] theorem State.devReset_seqbuf (s : State) : (s.devReset).seqbuf = s.seqbuf := rfl
@[simp] theorem State.devReset_clk (s : State) : (s.devReset).clk = s.clk := rfl
@[simp] theorem State.devReset_faults (s : State) : (s.devReset).faults = s.faults := rfl
@[simp] theorem State.devReset_resp (s : State) : (s.devReset).resp = s.resp := rfl
@[simp] theorem State.devReset_inputs (s : State) : (s.devReset).inputs = s.inputs := rfl
@[simp] theorem State.devReset_sched (s : State) : (s.devReset).sched = s.sched := rfl

/-! ### `devCut` -/

@[simp] theorem State.devCut_cfg (s : State) : (s.devCut).cfg = s.cfg := rfl
@[simp] theorem State.devCut_bpe (s : State) : (s.devCut).bpe = s.bpe := rfl
@[simp] theorem State.devCut_fcs (s : State) : (s.devCut).fcs = s.fcs := rfl
@[simp] theorem State.devCut_crc (s : State) : (s.devCut).crc = s.crc := rfl
@[simp] theorem State.devCut_seqbuf (s : State) : (s.devCut).seqbuf = s.seqbuf := rfl
@[simp] theorem State.devCut_clk (s : State) : (s.devCut).clk = s.clk := rfl
@[simp] theorem State.devCut_faults (s : State) : (s.devCut).faults = s.faults := rfl
@[simp] theorem State.devCut_resp (s : State) : (s.devCut).resp = s.resp := rfl
@[simp] theorem State.devCut_inputs (s : State) : (s.devCut).inputs = s.inputs := rfl
@[simp] theorem State.devCut_sched (s : State) : (s.devCut).sched = s.sched := rfl

/-! ### `storeFrame` -/

@[simp] theorem State.storeFrame_cfg (v : Word) (s : State) : (s.storeFrame v).cfg = s.cfg := rfl
@[simp] theorem State.storeFrame_fcs (v : Word) (s : State) : (s.storeFrame v).fcs = s.fcs := rfl
@[simp] theorem State.storeFrame_crc (v : Word) (s : State) : (s.storeFrame v).crc = s.crc := rfl
@[simp] theorem State.storeFrame_seqbuf (v : Word) (s : State) : (s.storeFrame v).seqbuf = s.seqbuf := rfl
@[simp] theorem State.storeFrame_dev (v : Word) (s : State) : (s.storeFrame v).dev = s.dev := rfl
@[simp] theorem State.storeFrame_clk (v : Word) (s : State) : (s.storeFrame v).clk = s.clk := rfl
@[simp] theorem State.storeFrame_faults (v : Word) (s : State) : (s.storeFrame v).faults = s.faults := rfl
@[simp] theorem State.storeFrame_inputs (v : Word) (s : State) : (s.storeFrame v).inputs = s.inputs := rfl
@[simp] theorem State.storeFrame_sched (v : Word) (s : State) : (s.storeFrame v).sched = s.sched := rfl
@[simp] theorem State.storeFrame_draws (v : Word) (s : State) : (s.storeFrame v).draws = s.draws := rfl

/-! ### `startCmd` -/

@[simp] theorem State.startCmd_cfg (f : Frame) (s : State) : (s.startCmd f).cfg = s.cfg := rfl
@[simp] theorem State.startCmd_fcs (f : Frame) (s : State) : (s.startCmd f).fcs = s.fcs := rfl
@[simp] theorem State.startCmd_crc (f : Frame) (s : State) : (s.startCmd f).crc = s.crc := rfl
@[simp] theorem State.startCmd_seqbuf (f : Frame) (s : State) : (s.startCmd f).seqbuf = s.seqbuf := rfl
@[simp] theorem State.startCmd_clk (f : Frame) (s : State) : (s.startCmd f).clk = s.clk := rfl
@[simp] theorem State.startCmd_faults (f : Frame) (s : State) : (s.startCmd f).faults = s.faults := rfl
@[simp] theorem State.startCmd_resp (f : Frame) (s : State) : (s.startCmd f).resp = s.resp := rfl
@[simp] theorem State.startCmd_inputs (f : Frame) (s : State) : (s.startCmd f).inputs = s.inputs := rfl
@[simp] theorem State.startCmd_sched (f : Frame) (s : State) : (s.startCmd f).sched = s.sched := rfl
@[simp] theorem State.startCmd_draws (f : Frame) (s : State) : (s.startCmd f).draws = s.draws := rfl

/-! ### `arm` -/

@[simp] theorem State.arm_cfg (f : Frame) (s : State) : (s.arm f).cfg = s.cfg := rfl
@[simp] theorem State.arm_fcs (f : Frame) (s : State) : (s.arm f).fcs = s.fcs := rfl
@[simp] theorem State.arm_crc (f : Frame) (s : State) : (s.arm f).crc = s.crc := rfl
@[simp] theorem State.arm_seqbuf (f : Frame) (s : State) : (s.arm f).seqbuf = s.seqbuf := rfl
@[simp] theorem State.arm_dev (f : Frame) (s : State) : (s.arm f).dev = s.dev := rfl
@[simp] theorem State.arm_clk (f : Frame) (s : State) : (s.arm f).clk = s.clk := rfl
@[simp] theorem State.arm_faults (f : Frame) (s : State) : (s.arm f).faults = s.faults := rfl
@[simp] theorem State.arm_resp (f : Frame) (s : State) : (s.arm f).resp = s.resp := rfl
@[simp] theorem State.arm_inputs (f : Frame) (s : State) : (s.arm f).inputs = s.inputs := rfl
@[simp] theorem State.arm_sched (f : Frame) (s : State) : (s.arm f).sched = s.sched := rfl
@[simp] theorem State.arm_draws (f : Frame) (s : State) : (s.arm f).draws = s.draws := rfl

/-! ### `countRead` -/

@[simp] theorem State.countRead_cfg (o : Word) (n : Nat) (s : State) : (s.countRead o n).cfg = s.cfg := rfl
@[simp] theorem State.countRead_fcs (o : Word) (n : Nat) (s : State) : (s.countRead o n).fcs = s.fcs := rfl
@[simp] theorem State.countRead_crc (o : Word) (n : Nat) (s : State) : (s.countRead o n).crc = s.crc := rfl
@[simp] theorem State.countRead_seqbuf (o : Word) (n : Nat) (s : State) : (s.countRead o n).seqbuf = s.seqbuf := rfl
@[simp] theorem State.countRead_dev (o : Word) (n : Nat) (s : State) : (s.countRead o n).dev = s.dev := rfl
@[simp] theorem State.countRead_clk (o : Word) (n : Nat) (s : State) : (s.countRead o n).clk = s.clk := rfl
@[simp] theorem State.countRead_faults (o : Word) (n : Nat) (s : State) : (s.countRead o n).faults = s.faults := rfl
@[simp] theorem State.countRead_resp (o : Word) (n : Nat) (s : State) : (s.countRead o n).resp = s.resp := rfl
@[simp] theorem State.countRead_inputs (o : Word) (n : Nat) (s : State) : (s.countRead o n).inputs = s.inputs := rfl
@[simp] theorem State.countRead_sched (o : Word) (n : Nat) (s : State) : (s.countRead o n).sched = s.sched := rfl
@[simp] theorem State.countRead_draws (o : Word) (n : Nat) (s : State) : (s.countRead o n).draws = s.draws := rfl

/-! ### `countWrite` -/

@[simp] theorem State.countWrite_cfg (o : Word) (l : List Byte) (s : State) : (s.countWrite o l).cfg = s.cfg := rfl
@[simp] theorem State.countWrite_fcs (o : Word) (l : List Byte) (s : State) : (s.countWrite o l).fcs = s.fcs := rfl
@[simp] theorem State.countWrite_crc (o : Word) (l : List Byte) (s : State) : (s.countWrite o l).crc = s.crc := rfl
@[simp] theorem State.countWrite_seqbuf (o : Word) (l : List Byte) (s : State) : (s.countWrite o l).seqbuf = s.seqbuf := rfl
@[simp] theorem State.countWrite_dev (o : Word) (l : List Byte) (s : State) : (s.countWrite o l).dev = s.dev := rfl
@[simp] theorem State.countWrite_clk (o : Word) (l : List Byte) (s : State) : (s.countWrite o l).clk = s.clk := rfl
@[simp] theorem State.countWrite_faults (o : Word) (l : List Byte) (s : State) : (s.countWrite o l).faults = s.faults := rfl
@[simp] theorem State.countWrite_resp (o : Word) (l : List Byte) (s : State) : (s.countWrite o l).resp = s.resp := rfl
@[simp] theorem State.countWrite_inputs (o : Word) (l : List Byte) (s : State) : (s.countWrite o l).inputs = s.inputs := rfl
@[simp] theorem State.countWrite_sched (o : Word) (l : List Byte) (s : State) : (s.countWrite o l).sched = s.sched := rfl
@[simp] theorem State.countWrite_draws (o : Word) (l : List Byte) (s : State) : (s.countWrite o l).draws = s.draws := rfl

/-! ### `writeEnable` -/

@[simp] theorem State.writeEnable_cfg (en : Bool) (s : State) : (s.writeEnable en).cfg = s.cfg := rfl
@[simp] theorem State.writeEnable_fcs (en : Bool) (s : State) : (s.writeEnable en).fcs = s.fcs := rfl
@[simp] theorem State.writeEnable_crc (en : Bool) (s : State) : (s.writeEnable en).crc = s.crc := rfl
@[simp] theorem State.writeEnable_seqbuf (en : Bool) (s : State) : (s.writeEnable en).seqbuf = s.seqbuf := rfl
@[simp] theorem State.writeEnable_dev (en : Bool) (s : State) : (s.writeEnable en).dev = s.dev := rfl
@[simp] theorem State.writeEnable_clk (en : Bool) (s : State) : (s.writeEnable en).clk = s.clk := rfl
@[simp] theorem State.writeEnable_faults (en : Bool) (s : State) : (s.writeEnable en).faults = s.faults := rfl
@[simp] theorem State.writeEnable_inputs (en : Bool) (s : State) : (s.writeEnable en).inputs = s.inputs := rfl
@[simp] theorem State.writeEnable_sched (en : Bool) (s : State) : (s.writeEnable en).sched = s.sched := rfl
@[simp] theorem State.writeEnable_draws (en : Bool) (s : State) : (s.writeEnable en).draws = s.draws := rfl

/-! ### `finish` -/

@[simp] theorem State.finish_cfg (e : ErrCode) (s : State) : (s.finish e).cfg = s.cfg := rfl
@[simp] theorem State.finish_crc (e : ErrCode) (s : State) : (s.finish e).crc = s.crc := rfl
@[simp] theorem State.finish_seqbuf (e : ErrCode) (s : State) : (s.finish e).seqbuf = s.seqbuf := rfl
@[simp] theorem State.finish_dev (e : ErrCode) (s : State) : (s.finish e).dev = s.dev := rfl
@[simp] theorem State.finish_clk (e : ErrCode) (s : State) : (s.finish e).clk = s.clk := rfl
@[simp] theorem State.finish_faults (e : ErrCode) (s : State) : (s.finish e).faults = s.faults := rfl
@[simp] theorem State.finish_resp (e : ErrCode) (s : State) : (s.finish e).resp = s.resp := rfl
@[simp] theorem State.finish_inputs (e : ErrCode) (s : State) : (s.finish e).inputs = s.inputs := rfl
@[simp] theorem State.finish_sched (e : ErrCode) (s : State) : (s.finish e).sched = s.sched := rfl
@[simp] theorem State.finish_draws (e : ErrCode) (s : State) : (s.finish e).draws = s.draws := rfl

/-! ### `goto` -/

@[simp] theorem State.goto_cfg (st : SeqStep) (s : State) : (s.goto st).cfg = s.cfg := rfl
@[simp] theorem State.goto_bpe (st : SeqStep) (s : State) : (s.goto st).bpe = s.bpe := rfl
@[simp] theorem State.goto_crc (st : SeqStep) (s : State) : (s.goto st).crc = s.crc := rfl
@[simp] theorem State.goto_seqbuf (st : SeqStep) (s : State) : (s.goto st).seqbuf = s.seqbuf := rfl
@[simp] theorem State.goto_dev (st : SeqStep) (s : State) : (s.goto st).dev = s.dev := rfl
@[simp] theorem State.goto_clk (st : SeqStep) (s : State) : (s.goto st).clk = s.clk := rfl
@[simp] theorem State.goto_faults (st : SeqStep) (s : State) : (s.goto st).faults = s.faults := rfl
@[simp] theorem State.goto_resp (st : SeqStep) (s : State) : (s.goto st).resp = s.resp := rfl
@[simp] theorem State.goto_inputs (st : SeqStep) (s : State) : (s.goto st).inputs = s.inputs := rfl
@[simp] theorem State.goto_sched (st : SeqStep) (s : State) : (s.goto st).sched = s.sched := rfl
@[simp] theorem State.goto_draws (st : SeqStep) (s : State) : (s.goto st).draws = s.draws := rfl

/-! ### `gotoPoll` -/

@[simp] theorem State.gotoPoll_cfg (st : SeqStep) (s : State) : (s.gotoPoll st).cfg = s.cfg := rfl
@[simp] theorem State.gotoPoll_bpe (st : SeqStep) (s : State) : (s.gotoPoll st).bpe = s.bpe := rfl
@[simp] theorem State.gotoPoll_crc (st : SeqStep) (s : State) : (s.gotoPoll st).crc = s.crc := rfl
@[simp] theorem State.gotoPoll_seqbuf (st : SeqStep) (s : State) : (s.gotoPoll st).seqbuf = s.seqbuf := rfl
@[simp] theorem State.gotoPoll_dev (st : SeqStep) (s : State) : (s.gotoPoll st).dev = s.dev := rfl
@[simp] theorem State.gotoPoll_clk (st : SeqStep) (s : State) : (s.gotoPoll st).clk = s.clk := rfl
@[simp] theorem State.gotoPoll_faults (st : SeqStep) (s : State) : (s.gotoPoll st).faults = s.faults := rfl
@[simp] theorem State.gotoPoll_resp (st : SeqStep) (s : State) : (s.gotoPoll st).resp = s.resp := rfl
@[simp] theorem State.gotoPoll_inputs (st : SeqStep) (s : State) : (s.gotoPoll st).inputs = s.inputs := rfl
@[simp] theorem State.gotoPoll_sched (st : SeqStep) (s : State) : (s.gotoPoll st).sched = s.sched := rfl
@[simp] theorem State.gotoPoll_draws (st : SeqStep) (s : State) : (s.gotoPoll st).draws = s.draws := rfl

/-! ### `countPoll` -/

@[simp] theorem State.countPoll_cfg (b : Byte) (s : State) : (s.countPoll b).cfg = s.cfg := rfl
@[simp] theorem State.countPoll_bpe (b : Byte) (s : State) : (s.countPoll b).bpe = s.bpe := rfl
@[simp] theorem State.countPoll_crc (b : Byte) (s : State) : (s.countPoll b).crc = s.crc := rfl
@[simp] theorem State.countPoll_seqbuf (b : Byte) (s : State) : (s.countPoll b).seqbuf = s.seqbuf := rfl
@[simp] theorem State.countPoll_dev (b : Byte) (s : State) : (s.countPoll b).dev = s.dev := rfl
@[simp] theorem State.countPoll_clk (b : Byte) (s : State) : (s.countPoll b).clk = s.clk := rfl
@[simp] theorem State.countPoll_faults (b : Byte) (s : State) : (s.countPoll b).faults = s.faults := rfl
@[simp] theorem State.countPoll_resp (b : Byte) (s : State) : (s.countPoll b).resp = s.resp := rfl
@[simp] theorem State.countPoll_inputs (b : Byte) (s : State) : (s.countPoll b).inputs = s.inputs := rfl
@[simp] theorem State.countPoll_sched (b : Byte) (s : State) : (s.countPoll b).sched = s.sched := rfl
@[simp] theorem State.countPoll_draws (b : Byte) (s : State) : (s.countPoll b).draws = s.draws := rfl

/-! ### `setSr` -/

@[simp] theorem State.setSr_cfg (b : Byte) (s : State) : (s.setSr b).cfg = s.cfg := rfl
@[simp] theorem State.setSr_bpe (b : Byte) (s : State) : (s.setSr b).bpe = s.bpe := rfl
@[simp] theorem State.setSr_crc (b : Byte) (s : State) : (s.setSr b).crc = s.crc := rfl
@[simp] theorem State.setSr_seqbuf (b : Byte) (s : State) : (s.setSr b).seqbuf = s.seqbuf := rfl
@[simp] theorem State.setSr_dev (b : Byte) (s : State) : (s.setSr b).dev = s.dev := rfl
@[simp] theorem State.setSr_clk (b : Byte) (s : State) : (s.setSr b).clk = s.clk := rfl
@[simp] theorem State.setSr_faults (b : Byte) (s : State) : (s.setSr b).faults = s.faults := rfl
@[simp] theorem State.setSr_resp (b : Byte) (s : State) : (s.setSr b).resp = s.resp := rfl
@[simp] theorem State.setSr_inputs (b : Byte) (s : State) : (s.setSr b).inputs = s.inputs := rfl
@[simp] theorem State.setSr_sched (b : Byte) (s : State) : (s.setSr b).sched = s.sched := rfl
@[simp] theorem State.setSr_draws (b : Byte) (s : State) : (s.setSr b).draws = s.draws := rfl

/-! ### `fillBuf` -/

@[simp] theorem State.fillBuf_cfg (l : List Byte) (s : State) : (s.fillBuf l).cfg = s.cfg := rfl
@[simp] theorem State.fillBuf_bpe (l : List Byte) (s : State) : (s.fillBuf l).bpe = s.bpe := rfl
@[simp] theorem State.fillBuf_fcs (l : List Byte) (s : State) : (s.fillBuf l).fcs = s.fcs := rfl
@[simp] theorem State.fillBuf_crc (l : List Byte) (s : State) : (s.fillBuf l).crc = s.crc := rfl
@[simp] theorem State.fillBuf_dev (l : List Byte) (s : State) : (s.fillBuf l).dev = s.dev := rfl
@[simp] theorem State.fillBuf_clk (l : List Byte) (s : State) : (s.fillBuf l).clk = s.clk := rfl
@[simp] theorem State.fillBuf_faults (l : List Byte) (s : State) : (s.fillBuf l).faults = s.faults := rfl
@[simp] theorem State.fillBuf_resp (l : List Byte) (s : State) : (s.fillBuf l).resp = s.resp := rfl
@[simp] theorem State.fillBuf_inputs (l : List Byte) (s : State) : (s.fillBuf l).inputs = s.inputs := rfl
@[simp] theorem State.fillBuf_sched (l : List Byte) (s : State) : (s.fillBuf l).sched = s.sched := rfl
@[simp] theorem State.fillBuf_draws (l : List Byte) (s : State) : (s.fillBuf l).draws = s.draws := rfl

/-! ### `deviceModeReset` -/

@[simp] theorem State.deviceModeReset_cfg (s : State) : (s.deviceModeReset).cfg = s.cfg := rfl
@[simp] theorem State.deviceModeReset_bpe (s : State) : (s.deviceModeReset).bpe = s.bpe := rfl
@[simp] theorem State.deviceModeReset_crc (s : State) : (s.deviceModeReset).crc = s.crc := rfl
@[simp] theorem State.deviceModeReset_seqbuf (s : State) : (s.deviceModeReset).seqbuf = s.seqbuf := rfl
@[simp] theorem State.deviceModeReset_dev (s : State) : (s.deviceModeReset).dev = s.dev := rfl
@[simp] theorem State.deviceModeReset_clk (s : State) : (s.deviceModeReset).clk = s.clk := rfl
@[simp] theorem State.deviceModeReset_faults (s : State) : (s.deviceModeReset).faults = s.faults := rfl
@[simp] theorem State.deviceModeReset_resp (s : State) : (s.deviceModeReset).resp = s.resp := rfl
@[simp] theorem State.deviceModeReset_inputs (s : State) : (s.deviceModeReset).inputs = s.inputs := rfl
@[simp] theorem State.deviceModeReset_sched (s : State) : (s.deviceModeReset).sched = s.sched := rfl
@[simp] theorem State.deviceModeReset_draws (s : State) : (s.deviceModeReset).draws = s.draws := rfl

/-! ### `devComplete` -/

@[simp] theorem State.devComplete_cfg (op : Pending) (silent : Bool) (s : State) : (s.devComplete op silent).cfg = s.cfg := rfl
@[simp] theorem State.devComplete_bpe (op : Pending) (silent : Bool) (s : State) : (s.devComplete op silent).bpe = s.bpe := rfl
@[simp] theorem State.devComplete_fcs (op : Pending) (silent : Bool) (s : State) : (s.devComplete op silent).fcs = s.fcs := rfl
@[simp] theorem State.devComplete_crc (op : Pending) (silent : Bool) (s : State) : (s.devComplete op silent).crc = s.crc := rfl
@[simp] theorem State.devComplete_seqbuf (op : Pending) (silent : Bool) (s : State) : (s.devComplete op silent).seqbuf = s.seqbuf := rfl
@[simp] theorem State.devComplete_clk (op : Pending) (silent : Bool) (s : State) : (s.devComplete op silent).clk = s.clk := rfl
@[simp] theorem State.devComplete_faults (op : Pending) (silent : Bool) (s : State) : (s.devComplete op silent).faults = s.faults := rfl
@[simp] theorem State.devComplete_resp (op : Pending) (silent : Bool) (s : State) : (s.devComplete op silent).resp = s.resp := rfl
@[simp] theorem State.devComplete_inputs (op : Pending) (silent : Bool) (s : State) : (s.devComplete op silent).inputs = s.inputs := rfl
@[simp] theorem State.devComplete_sched (op : Pending) (silent : Bool) (s : State) : (s.devComplete op silent).sched = s.sched := rfl

/-! ### What the updates write -/

@[simp] theorem State.nextDraw_draws (s : State) : s.nextDraw.draws = s.draws + 1 := rfl
@[simp] theorem State.raiseFault_faults (r : FaultReason) (s : State) :
    (s.raiseFault r).faults =
      insertReason r s.faults := rfl
@[simp] theorem State.raiseFault_resp (r : FaultReason) (s : State) : (s.raiseFault r).resp = .busError r := rfl
@[simp] theorem State.accept_resp (s : State) : s.accept.resp = .accepted := rfl
@[simp] theorem State.answer_resp (v : Word) (s : State) : (s.answer v).resp = .data v := rfl
@[simp] theorem State.flag_bpe (v : Word) (s : State) : (s.flag v).bpe = s.bpe.setFlag v := rfl
@[simp] theorem State.havoc_dev (s : State) : s.havoc.dev = s.dev.arbitrary s.cfg s.draws := rfl
@[simp] theorem State.havoc_draws (s : State) : s.havoc.draws = s.draws + 1 := rfl
@[simp] theorem State.devBegin_dev (f : Frame) (s : State) :
    (s.devBegin f).dev =
      { s.dev with cur := some { frame := f, plan := devPlan s.cfg s.dev f, sent := 0, recv := [] } } := rfl
@[simp] theorem State.devTake_dev (l : List Byte) (s : State) :
    (s.devTake l).dev =
      { s.dev with cur := s.dev.cur.map fun c => { c with recv := c.recv ++ l } } := rfl
@[simp] theorem State.devSent_dev (s : State) :
    s.devSent.dev =
      { s.dev with cur := s.dev.cur.map fun c => { c with sent := c.sent + 1 } } := rfl
@[simp] theorem State.devSent_draws (s : State) : s.devSent.draws = s.draws + 1 := rfl
@[simp] theorem State.goto_fcs (st : SeqStep) (s : State) : (s.goto st).fcs = { s.fcs with step := st } := rfl
@[simp] theorem State.gotoPoll_fcs (st : SeqStep) (s : State) :
    (s.gotoPoll st).fcs =
      { s.fcs with step := st, polls := 0#32, t0 := s.clk } := rfl
@[simp] theorem State.finish_fcs (e : ErrCode) (s : State) :
    (s.finish e).fcs =
      { s.fcs with err := e, failstep := failstepOf e s.fcs.step, step := .idle, busy := false, doneFlag := true } := rfl
@[simp] theorem State.finish_bpe (e : ErrCode) (s : State) : (s.finish e).bpe = s.bpe.setFlag flagSeqDone := rfl
@[simp] theorem State.countPoll_fcs (b : Byte) (s : State) :
    (s.countPoll b).fcs =
      { s.fcs with seqsr := b, polls := s.fcs.polls + 1#32 } := rfl
@[simp] theorem State.setSr_fcs (b : Byte) (s : State) : (s.setSr b).fcs = { s.fcs with seqsr := b } := rfl
@[simp] theorem State.fillBuf_seqbuf (l : List Byte) (s : State) : (s.fillBuf l).seqbuf = bufSet s.seqbuf 0 l := rfl
@[simp] theorem State.countRead_bpe (o : Word) (n : Nat) (s : State) :
    (s.countRead o n).bpe =
      { s.bpe with fread := s.bpe.fread + n, fnext := o + BitVec.ofNat 32 n } := rfl
@[simp] theorem State.countWrite_bpe (o : Word) (l : List Byte) (s : State) :
    (s.countWrite o l).bpe =
      { s.bpe with fwdata := s.bpe.fwdata ++ l, fnext := o + BitVec.ofNat 32 l.length } := rfl

/-! ### The flag register of the BPE -/

@[simp] theorem Bpe.setFlag_enable (v : Word) (b : Bpe) : (b.setFlag v).enable = b.enable := rfl
@[simp] theorem Bpe.setFlag_ctrlb (v : Word) (b : Bpe) : (b.setFlag v).ctrlb = b.ctrlb := rfl
@[simp] theorem Bpe.setFlag_baud (v : Word) (b : Bpe) : (b.setFlag v).baud = b.baud := rfl
@[simp] theorem Bpe.setFlag_inten (v : Word) (b : Bpe) : (b.setFlag v).inten = b.inten := rfl
@[simp] theorem Bpe.setFlag_instraddr (v : Word) (b : Bpe) : (b.setFlag v).instraddr = b.instraddr := rfl
@[simp] theorem Bpe.setFlag_instrctrl (v : Word) (b : Bpe) : (b.setFlag v).instrctrl = b.instrctrl := rfl
@[simp] theorem Bpe.setFlag_instrframe (v : Word) (b : Bpe) : (b.setFlag v).instrframe = b.instrframe := rfl
@[simp] theorem Bpe.setFlag_fstate (v : Word) (b : Bpe) : (b.setFlag v).fstate = b.fstate := rfl
@[simp] theorem Bpe.setFlag_stalled (v : Word) (b : Bpe) : (b.setFlag v).stalled = b.stalled := rfl
@[simp] theorem Bpe.setFlag_syncPending (v : Word) (b : Bpe) : (b.setFlag v).syncPending = b.syncPending := rfl
@[simp] theorem Bpe.setFlag_fdesc (v : Word) (b : Bpe) : (b.setFlag v).fdesc = b.fdesc := rfl
@[simp] theorem Bpe.setFlag_faddr (v : Word) (b : Bpe) : (b.setFlag v).faddr = b.faddr := rfl
@[simp] theorem Bpe.setFlag_fnext (v : Word) (b : Bpe) : (b.setFlag v).fnext = b.fnext := rfl
@[simp] theorem Bpe.setFlag_fwdata (v : Word) (b : Bpe) : (b.setFlag v).fwdata = b.fwdata := rfl
@[simp] theorem Bpe.setFlag_fread (v : Word) (b : Bpe) : (b.setFlag v).fread = b.fread := rfl
@[simp] theorem Bpe.setFlag_intflag (v : Word) (b : Bpe) : (b.setFlag v).intflag = b.intflag ||| v := rfl
@[simp] theorem Bpe.setFlag_csact (v : Word) (b : Bpe) : (b.setFlag v).csact = b.csact := rfl
@[simp] theorem Bpe.setFlag_running (v : Word) (b : Bpe) : (b.setFlag v).running = b.running := rfl

/-! ### Draws, snooping, opening: operations with a choice -/

@[simp] theorem State.drawStall_cfg (s : State) : (s.drawStall.2).cfg = s.cfg := by
  unfold State.drawStall; split <;> rfl
@[simp] theorem State.drawStall_bpe (s : State) : (s.drawStall.2).bpe = s.bpe := by
  unfold State.drawStall; split <;> rfl
@[simp] theorem State.drawStall_fcs (s : State) : (s.drawStall.2).fcs = s.fcs := by
  unfold State.drawStall; split <;> rfl
@[simp] theorem State.drawStall_crc (s : State) : (s.drawStall.2).crc = s.crc := by
  unfold State.drawStall; split <;> rfl
@[simp] theorem State.drawStall_seqbuf (s : State) : (s.drawStall.2).seqbuf = s.seqbuf := by
  unfold State.drawStall; split <;> rfl
@[simp] theorem State.drawStall_dev (s : State) : (s.drawStall.2).dev = s.dev := by
  unfold State.drawStall; split <;> rfl
@[simp] theorem State.drawStall_clk (s : State) : (s.drawStall.2).clk = s.clk := by
  unfold State.drawStall; split <;> rfl
@[simp] theorem State.drawStall_faults (s : State) : (s.drawStall.2).faults = s.faults := by
  unfold State.drawStall; split <;> rfl
@[simp] theorem State.drawStall_resp (s : State) : (s.drawStall.2).resp = s.resp := by
  unfold State.drawStall; split <;> rfl
@[simp] theorem State.drawStall_inputs (s : State) : (s.drawStall.2).inputs = s.inputs := by
  unfold State.drawStall; split <;> rfl
@[simp] theorem State.drawStall_sched (s : State) : (s.drawStall.2).sched = s.sched := by
  unfold State.drawStall; split <;> rfl

@[simp] theorem State.drawFinish_cfg (s : State) : (s.drawFinish.2).cfg = s.cfg := by
  unfold State.drawFinish; split <;> rfl
@[simp] theorem State.drawFinish_bpe (s : State) : (s.drawFinish.2).bpe = s.bpe := by
  unfold State.drawFinish; split <;> rfl
@[simp] theorem State.drawFinish_fcs (s : State) : (s.drawFinish.2).fcs = s.fcs := by
  unfold State.drawFinish; split <;> rfl
@[simp] theorem State.drawFinish_crc (s : State) : (s.drawFinish.2).crc = s.crc := by
  unfold State.drawFinish; split <;> rfl
@[simp] theorem State.drawFinish_seqbuf (s : State) : (s.drawFinish.2).seqbuf = s.seqbuf := by
  unfold State.drawFinish; split <;> rfl
@[simp] theorem State.drawFinish_dev (s : State) : (s.drawFinish.2).dev = s.dev := by
  unfold State.drawFinish; split <;> rfl
@[simp] theorem State.drawFinish_clk (s : State) : (s.drawFinish.2).clk = s.clk := by
  unfold State.drawFinish; split <;> rfl
@[simp] theorem State.drawFinish_faults (s : State) : (s.drawFinish.2).faults = s.faults := by
  unfold State.drawFinish; split <;> rfl
@[simp] theorem State.drawFinish_resp (s : State) : (s.drawFinish.2).resp = s.resp := by
  unfold State.drawFinish; split <;> rfl
@[simp] theorem State.drawFinish_inputs (s : State) : (s.drawFinish.2).inputs = s.inputs := by
  unfold State.drawFinish; split <;> rfl
@[simp] theorem State.drawFinish_sched (s : State) : (s.drawFinish.2).sched = s.sched := by
  unfold State.drawFinish; split <;> rfl

@[simp] theorem State.drawSilent_cfg (s : State) : (s.drawSilent.2).cfg = s.cfg := by
  unfold State.drawSilent; split <;> rfl
@[simp] theorem State.drawSilent_bpe (s : State) : (s.drawSilent.2).bpe = s.bpe := by
  unfold State.drawSilent; split <;> rfl
@[simp] theorem State.drawSilent_fcs (s : State) : (s.drawSilent.2).fcs = s.fcs := by
  unfold State.drawSilent; split <;> rfl
@[simp] theorem State.drawSilent_crc (s : State) : (s.drawSilent.2).crc = s.crc := by
  unfold State.drawSilent; split <;> rfl
@[simp] theorem State.drawSilent_seqbuf (s : State) : (s.drawSilent.2).seqbuf = s.seqbuf := by
  unfold State.drawSilent; split <;> rfl
@[simp] theorem State.drawSilent_dev (s : State) : (s.drawSilent.2).dev = s.dev := by
  unfold State.drawSilent; split <;> rfl
@[simp] theorem State.drawSilent_clk (s : State) : (s.drawSilent.2).clk = s.clk := by
  unfold State.drawSilent; split <;> rfl
@[simp] theorem State.drawSilent_faults (s : State) : (s.drawSilent.2).faults = s.faults := by
  unfold State.drawSilent; split <;> rfl
@[simp] theorem State.drawSilent_resp (s : State) : (s.drawSilent.2).resp = s.resp := by
  unfold State.drawSilent; split <;> rfl
@[simp] theorem State.drawSilent_inputs (s : State) : (s.drawSilent.2).inputs = s.inputs := by
  unfold State.drawSilent; split <;> rfl
@[simp] theorem State.drawSilent_sched (s : State) : (s.drawSilent.2).sched = s.sched := by
  unfold State.drawSilent; split <;> rfl

@[simp] theorem State.snoopBytes_cfg (k : Kind) (l : List Byte) (s : State) : (s.snoopBytes k l).cfg = s.cfg := by
  unfold State.snoopBytes; split <;> rfl
@[simp] theorem State.snoopBytes_bpe (k : Kind) (l : List Byte) (s : State) : (s.snoopBytes k l).bpe = s.bpe := by
  unfold State.snoopBytes; split <;> rfl
@[simp] theorem State.snoopBytes_fcs (k : Kind) (l : List Byte) (s : State) : (s.snoopBytes k l).fcs = s.fcs := by
  unfold State.snoopBytes; split <;> rfl
@[simp] theorem State.snoopBytes_seqbuf (k : Kind) (l : List Byte) (s : State) : (s.snoopBytes k l).seqbuf = s.seqbuf := by
  unfold State.snoopBytes; split <;> rfl
@[simp] theorem State.snoopBytes_dev (k : Kind) (l : List Byte) (s : State) : (s.snoopBytes k l).dev = s.dev := by
  unfold State.snoopBytes; split <;> rfl
@[simp] theorem State.snoopBytes_clk (k : Kind) (l : List Byte) (s : State) : (s.snoopBytes k l).clk = s.clk := by
  unfold State.snoopBytes; split <;> rfl
@[simp] theorem State.snoopBytes_faults (k : Kind) (l : List Byte) (s : State) : (s.snoopBytes k l).faults = s.faults := by
  unfold State.snoopBytes; split <;> rfl
@[simp] theorem State.snoopBytes_resp (k : Kind) (l : List Byte) (s : State) : (s.snoopBytes k l).resp = s.resp := by
  unfold State.snoopBytes; split <;> rfl
@[simp] theorem State.snoopBytes_inputs (k : Kind) (l : List Byte) (s : State) : (s.snoopBytes k l).inputs = s.inputs := by
  unfold State.snoopBytes; split <;> rfl
@[simp] theorem State.snoopBytes_sched (k : Kind) (l : List Byte) (s : State) : (s.snoopBytes k l).sched = s.sched := by
  unfold State.snoopBytes; split <;> rfl
@[simp] theorem State.snoopBytes_draws (k : Kind) (l : List Byte) (s : State) : (s.snoopBytes k l).draws = s.draws := by
  unfold State.snoopBytes; split <;> rfl

@[simp] theorem State.openFrame_cfg (f : Frame) (b : Bool) (o : Word) (s : State) : (s.openFrame f b o).cfg = s.cfg := by
  unfold State.openFrame; split <;> rfl
@[simp] theorem State.openFrame_fcs (f : Frame) (b : Bool) (o : Word) (s : State) : (s.openFrame f b o).fcs = s.fcs := by
  unfold State.openFrame; split <;> rfl
@[simp] theorem State.openFrame_crc (f : Frame) (b : Bool) (o : Word) (s : State) : (s.openFrame f b o).crc = s.crc := by
  unfold State.openFrame; split <;> rfl
@[simp] theorem State.openFrame_seqbuf (f : Frame) (b : Bool) (o : Word) (s : State) : (s.openFrame f b o).seqbuf = s.seqbuf := by
  unfold State.openFrame; split <;> rfl
@[simp] theorem State.openFrame_clk (f : Frame) (b : Bool) (o : Word) (s : State) : (s.openFrame f b o).clk = s.clk := by
  unfold State.openFrame; split <;> rfl
@[simp] theorem State.openFrame_faults (f : Frame) (b : Bool) (o : Word) (s : State) : (s.openFrame f b o).faults = s.faults := by
  unfold State.openFrame; split <;> rfl
@[simp] theorem State.openFrame_resp (f : Frame) (b : Bool) (o : Word) (s : State) : (s.openFrame f b o).resp = s.resp := by
  unfold State.openFrame; split <;> rfl
@[simp] theorem State.openFrame_inputs (f : Frame) (b : Bool) (o : Word) (s : State) : (s.openFrame f b o).inputs = s.inputs := by
  unfold State.openFrame; split <;> rfl
@[simp] theorem State.openFrame_sched (f : Frame) (b : Bool) (o : Word) (s : State) : (s.openFrame f b o).sched = s.sched := by
  unfold State.openFrame; split <;> rfl
@[simp] theorem State.openFrame_draws (f : Frame) (b : Bool) (o : Word) (s : State) : (s.openFrame f b o).draws = s.draws := by
  unfold State.openFrame; split <;> rfl

@[simp] theorem State.advance_cfg (s : State) : (s.advance).cfg = s.cfg := by
  unfold State.advance; split <;> rfl
@[simp] theorem State.advance_bpe (s : State) : (s.advance).bpe = s.bpe := by
  unfold State.advance; split <;> rfl
@[simp] theorem State.advance_fcs (s : State) : (s.advance).fcs = s.fcs := by
  unfold State.advance; split <;> rfl
@[simp] theorem State.advance_crc (s : State) : (s.advance).crc = s.crc := by
  unfold State.advance; split <;> rfl
@[simp] theorem State.advance_seqbuf (s : State) : (s.advance).seqbuf = s.seqbuf := by
  unfold State.advance; split <;> rfl
@[simp] theorem State.advance_dev (s : State) : (s.advance).dev = s.dev := by
  unfold State.advance; split <;> rfl
@[simp] theorem State.advance_clk (s : State) : (s.advance).clk = s.clk := by
  unfold State.advance; split <;> rfl
@[simp] theorem State.advance_faults (s : State) : (s.advance).faults = s.faults := by
  unfold State.advance; split <;> rfl
@[simp] theorem State.advance_resp (s : State) : (s.advance).resp = s.resp := by
  unfold State.advance; split <;> rfl
@[simp] theorem State.advance_inputs (s : State) : (s.advance).inputs = s.inputs := by
  unfold State.advance; split <;> rfl

/-! ### The device's bookkeeping while bytes move -/

@[simp] theorem State.devSentN_cfg (n : Nat) (s : State) : (s.devSentN n).cfg = s.cfg := by
  induction n generalizing s with
  | zero => rfl
  | succ n ih => exact (ih s.devSent).trans rfl
@[simp] theorem State.devSentN_bpe (n : Nat) (s : State) : (s.devSentN n).bpe = s.bpe := by
  induction n generalizing s with
  | zero => rfl
  | succ n ih => exact (ih s.devSent).trans rfl
@[simp] theorem State.devSentN_fcs (n : Nat) (s : State) : (s.devSentN n).fcs = s.fcs := by
  induction n generalizing s with
  | zero => rfl
  | succ n ih => exact (ih s.devSent).trans rfl
@[simp] theorem State.devSentN_crc (n : Nat) (s : State) : (s.devSentN n).crc = s.crc := by
  induction n generalizing s with
  | zero => rfl
  | succ n ih => exact (ih s.devSent).trans rfl
@[simp] theorem State.devSentN_seqbuf (n : Nat) (s : State) : (s.devSentN n).seqbuf = s.seqbuf := by
  induction n generalizing s with
  | zero => rfl
  | succ n ih => exact (ih s.devSent).trans rfl
@[simp] theorem State.devSentN_clk (n : Nat) (s : State) : (s.devSentN n).clk = s.clk := by
  induction n generalizing s with
  | zero => rfl
  | succ n ih => exact (ih s.devSent).trans rfl
@[simp] theorem State.devSentN_faults (n : Nat) (s : State) : (s.devSentN n).faults = s.faults := by
  induction n generalizing s with
  | zero => rfl
  | succ n ih => exact (ih s.devSent).trans rfl
@[simp] theorem State.devSentN_resp (n : Nat) (s : State) : (s.devSentN n).resp = s.resp := by
  induction n generalizing s with
  | zero => rfl
  | succ n ih => exact (ih s.devSent).trans rfl
@[simp] theorem State.devSentN_inputs (n : Nat) (s : State) : (s.devSentN n).inputs = s.inputs := by
  induction n generalizing s with
  | zero => rfl
  | succ n ih => exact (ih s.devSent).trans rfl
@[simp] theorem State.devSentN_sched (n : Nat) (s : State) : (s.devSentN n).sched = s.sched := by
  induction n generalizing s with
  | zero => rfl
  | succ n ih => exact (ih s.devSent).trans rfl
@[simp] theorem State.devWrevcr_cfg (e : Byte) (s : State) : (s.devWrevcr e).cfg = s.cfg := by
  unfold State.devWrevcr; split <;> (try split) <;> rfl
@[simp] theorem State.devWrevcr_bpe (e : Byte) (s : State) : (s.devWrevcr e).bpe = s.bpe := by
  unfold State.devWrevcr; split <;> (try split) <;> rfl
@[simp] theorem State.devWrevcr_fcs (e : Byte) (s : State) : (s.devWrevcr e).fcs = s.fcs := by
  unfold State.devWrevcr; split <;> (try split) <;> rfl
@[simp] theorem State.devWrevcr_crc (e : Byte) (s : State) : (s.devWrevcr e).crc = s.crc := by
  unfold State.devWrevcr; split <;> (try split) <;> rfl
@[simp] theorem State.devWrevcr_seqbuf (e : Byte) (s : State) : (s.devWrevcr e).seqbuf = s.seqbuf := by
  unfold State.devWrevcr; split <;> (try split) <;> rfl
@[simp] theorem State.devWrevcr_clk (e : Byte) (s : State) : (s.devWrevcr e).clk = s.clk := by
  unfold State.devWrevcr; split <;> (try split) <;> rfl
@[simp] theorem State.devWrevcr_faults (e : Byte) (s : State) : (s.devWrevcr e).faults = s.faults := by
  unfold State.devWrevcr; split <;> (try split) <;> rfl
@[simp] theorem State.devWrevcr_resp (e : Byte) (s : State) : (s.devWrevcr e).resp = s.resp := by
  unfold State.devWrevcr; split <;> (try split) <;> rfl
@[simp] theorem State.devWrevcr_inputs (e : Byte) (s : State) : (s.devWrevcr e).inputs = s.inputs := by
  unfold State.devWrevcr; split <;> (try split) <;> rfl
@[simp] theorem State.devWrevcr_sched (e : Byte) (s : State) : (s.devWrevcr e).sched = s.sched := by
  unfold State.devWrevcr; split <;> (try split) <;> rfl
@[simp] theorem State.devWrvcr_cfg (e : Byte) (s : State) : (s.devWrvcr e).cfg = s.cfg := by
  unfold State.devWrvcr; split <;> (try split) <;> rfl
@[simp] theorem State.devWrvcr_bpe (e : Byte) (s : State) : (s.devWrvcr e).bpe = s.bpe := by
  unfold State.devWrvcr; split <;> (try split) <;> rfl
@[simp] theorem State.devWrvcr_fcs (e : Byte) (s : State) : (s.devWrvcr e).fcs = s.fcs := by
  unfold State.devWrvcr; split <;> (try split) <;> rfl
@[simp] theorem State.devWrvcr_crc (e : Byte) (s : State) : (s.devWrvcr e).crc = s.crc := by
  unfold State.devWrvcr; split <;> (try split) <;> rfl
@[simp] theorem State.devWrvcr_seqbuf (e : Byte) (s : State) : (s.devWrvcr e).seqbuf = s.seqbuf := by
  unfold State.devWrvcr; split <;> (try split) <;> rfl
@[simp] theorem State.devWrvcr_clk (e : Byte) (s : State) : (s.devWrvcr e).clk = s.clk := by
  unfold State.devWrvcr; split <;> (try split) <;> rfl
@[simp] theorem State.devWrvcr_faults (e : Byte) (s : State) : (s.devWrvcr e).faults = s.faults := by
  unfold State.devWrvcr; split <;> (try split) <;> rfl
@[simp] theorem State.devWrvcr_resp (e : Byte) (s : State) : (s.devWrvcr e).resp = s.resp := by
  unfold State.devWrvcr; split <;> (try split) <;> rfl
@[simp] theorem State.devWrvcr_inputs (e : Byte) (s : State) : (s.devWrvcr e).inputs = s.inputs := by
  unfold State.devWrvcr; split <;> (try split) <;> rfl
@[simp] theorem State.devWrvcr_sched (e : Byte) (s : State) : (s.devWrvcr e).sched = s.sched := by
  unfold State.devWrvcr; split <;> (try split) <;> rfl
@[simp] theorem State.devEffect_cfg (c : InFlight) (s : State) : (s.devEffect c).cfg = s.cfg := by
  unfold State.devEffect; split <;> (try split) <;> (try split) <;> simp
@[simp] theorem State.devEffect_bpe (c : InFlight) (s : State) : (s.devEffect c).bpe = s.bpe := by
  unfold State.devEffect; split <;> (try split) <;> (try split) <;> simp
@[simp] theorem State.devEffect_fcs (c : InFlight) (s : State) : (s.devEffect c).fcs = s.fcs := by
  unfold State.devEffect; split <;> (try split) <;> (try split) <;> simp
@[simp] theorem State.devEffect_crc (c : InFlight) (s : State) : (s.devEffect c).crc = s.crc := by
  unfold State.devEffect; split <;> (try split) <;> (try split) <;> simp
@[simp] theorem State.devEffect_seqbuf (c : InFlight) (s : State) : (s.devEffect c).seqbuf = s.seqbuf := by
  unfold State.devEffect; split <;> (try split) <;> (try split) <;> simp
@[simp] theorem State.devEffect_clk (c : InFlight) (s : State) : (s.devEffect c).clk = s.clk := by
  unfold State.devEffect; split <;> (try split) <;> (try split) <;> simp
@[simp] theorem State.devEffect_faults (c : InFlight) (s : State) : (s.devEffect c).faults = s.faults := by
  unfold State.devEffect; split <;> (try split) <;> (try split) <;> simp
@[simp] theorem State.devEffect_resp (c : InFlight) (s : State) : (s.devEffect c).resp = s.resp := by
  unfold State.devEffect; split <;> (try split) <;> (try split) <;> simp
@[simp] theorem State.devEffect_inputs (c : InFlight) (s : State) : (s.devEffect c).inputs = s.inputs := by
  unfold State.devEffect; split <;> (try split) <;> (try split) <;> simp
@[simp] theorem State.devEffect_sched (c : InFlight) (s : State) : (s.devEffect c).sched = s.sched := by
  unfold State.devEffect; split <;> (try split) <;> (try split) <;> simp
@[simp] theorem State.devEnd_cfg (s : State) : s.devEnd.cfg = s.cfg := by
  unfold State.devEnd; split <;> simp
@[simp] theorem State.devEnd_bpe (s : State) : s.devEnd.bpe = s.bpe := by
  unfold State.devEnd; split <;> simp
@[simp] theorem State.devEnd_fcs (s : State) : s.devEnd.fcs = s.fcs := by
  unfold State.devEnd; split <;> simp
@[simp] theorem State.devEnd_crc (s : State) : s.devEnd.crc = s.crc := by
  unfold State.devEnd; split <;> simp
@[simp] theorem State.devEnd_seqbuf (s : State) : s.devEnd.seqbuf = s.seqbuf := by
  unfold State.devEnd; split <;> simp
@[simp] theorem State.devEnd_clk (s : State) : s.devEnd.clk = s.clk := by
  unfold State.devEnd; split <;> simp
@[simp] theorem State.devEnd_faults (s : State) : s.devEnd.faults = s.faults := by
  unfold State.devEnd; split <;> simp
@[simp] theorem State.devEnd_resp (s : State) : s.devEnd.resp = s.resp := by
  unfold State.devEnd; split <;> simp
@[simp] theorem State.devEnd_inputs (s : State) : s.devEnd.inputs = s.inputs := by
  unfold State.devEnd; split <;> simp
@[simp] theorem State.devEnd_sched (s : State) : s.devEnd.sched = s.sched := by
  unfold State.devEnd; split <;> simp
@[simp] theorem State.perform_cfg (f : BusFrame) (s : State) : (s.perform f).cfg = s.cfg := by
  unfold State.perform State.devData; split <;> (try split) <;> simp
@[simp] theorem State.perform_bpe (f : BusFrame) (s : State) : (s.perform f).bpe = s.bpe := by
  unfold State.perform State.devData; split <;> (try split) <;> simp
@[simp] theorem State.perform_fcs (f : BusFrame) (s : State) : (s.perform f).fcs = s.fcs := by
  unfold State.perform State.devData; split <;> (try split) <;> simp
@[simp] theorem State.perform_crc (f : BusFrame) (s : State) : (s.perform f).crc = s.crc := by
  unfold State.perform State.devData; split <;> (try split) <;> simp
@[simp] theorem State.perform_seqbuf (f : BusFrame) (s : State) : (s.perform f).seqbuf = s.seqbuf := by
  unfold State.perform State.devData; split <;> (try split) <;> simp
@[simp] theorem State.perform_clk (f : BusFrame) (s : State) : (s.perform f).clk = s.clk := by
  unfold State.perform State.devData; split <;> (try split) <;> simp
@[simp] theorem State.perform_faults (f : BusFrame) (s : State) : (s.perform f).faults = s.faults := by
  unfold State.perform State.devData; split <;> (try split) <;> simp
@[simp] theorem State.perform_resp (f : BusFrame) (s : State) : (s.perform f).resp = s.resp := by
  unfold State.perform State.devData; split <;> (try split) <;> simp
@[simp] theorem State.perform_inputs (f : BusFrame) (s : State) : (s.perform f).inputs = s.inputs := by
  unfold State.perform State.devData; split <;> (try split) <;> simp
@[simp] theorem State.perform_sched (f : BusFrame) (s : State) : (s.perform f).sched = s.sched := by
  unfold State.perform State.devData; split <;> (try split) <;> simp
@[simp] theorem State.dropFrame_cfg (s : State) : s.dropFrame.cfg = s.cfg := by
  unfold State.dropFrame; split <;> rfl
@[simp] theorem State.dropFrame_bpe (s : State) : s.dropFrame.bpe = s.bpe := by
  unfold State.dropFrame; split <;> rfl
@[simp] theorem State.dropFrame_fcs (s : State) : s.dropFrame.fcs = s.fcs := by
  unfold State.dropFrame; split <;> rfl
@[simp] theorem State.dropFrame_crc (s : State) : s.dropFrame.crc = s.crc := by
  unfold State.dropFrame; split <;> rfl
@[simp] theorem State.dropFrame_seqbuf (s : State) : s.dropFrame.seqbuf = s.seqbuf := by
  unfold State.dropFrame; split <;> rfl
@[simp] theorem State.dropFrame_clk (s : State) : s.dropFrame.clk = s.clk := by
  unfold State.dropFrame; split <;> rfl
@[simp] theorem State.dropFrame_faults (s : State) : s.dropFrame.faults = s.faults := by
  unfold State.dropFrame; split <;> rfl
@[simp] theorem State.dropFrame_resp (s : State) : s.dropFrame.resp = s.resp := by
  unfold State.dropFrame; split <;> rfl
@[simp] theorem State.dropFrame_inputs (s : State) : s.dropFrame.inputs = s.inputs := by
  unfold State.dropFrame; split <;> rfl
@[simp] theorem State.dropFrame_sched (s : State) : s.dropFrame.sched = s.sched := by
  unfold State.dropFrame; split <;> rfl
@[simp] theorem State.cutFrame_cfg (s : State) : s.cutFrame.cfg = s.cfg := by
  unfold State.cutFrame; split <;> rfl
@[simp] theorem State.cutFrame_bpe (s : State) : s.cutFrame.bpe = s.bpe := by
  unfold State.cutFrame; split <;> rfl
@[simp] theorem State.cutFrame_fcs (s : State) : s.cutFrame.fcs = s.fcs := by
  unfold State.cutFrame; split <;> rfl
@[simp] theorem State.cutFrame_crc (s : State) : s.cutFrame.crc = s.crc := by
  unfold State.cutFrame; split <;> rfl
@[simp] theorem State.cutFrame_seqbuf (s : State) : s.cutFrame.seqbuf = s.seqbuf := by
  unfold State.cutFrame; split <;> rfl
@[simp] theorem State.cutFrame_clk (s : State) : s.cutFrame.clk = s.clk := by
  unfold State.cutFrame; split <;> rfl
@[simp] theorem State.cutFrame_faults (s : State) : s.cutFrame.faults = s.faults := by
  unfold State.cutFrame; split <;> rfl
@[simp] theorem State.cutFrame_resp (s : State) : s.cutFrame.resp = s.resp := by
  unfold State.cutFrame; split <;> rfl
@[simp] theorem State.cutFrame_inputs (s : State) : s.cutFrame.inputs = s.inputs := by
  unfold State.cutFrame; split <;> rfl
@[simp] theorem State.cutFrame_sched (s : State) : s.cutFrame.sched = s.sched := by
  unfold State.cutFrame; split <;> rfl
@[simp] theorem State.fcsPerform_cfg (f : BusFrame) (s : State) : (s.fcsPerform f).cfg = s.cfg := by
  simp [State.fcsPerform]
@[simp] theorem State.fcsPerform_bpe (f : BusFrame) (s : State) : (s.fcsPerform f).bpe = s.bpe := by
  simp [State.fcsPerform]
@[simp] theorem State.fcsPerform_seqbuf (f : BusFrame) (s : State) : (s.fcsPerform f).seqbuf = s.seqbuf := by
  simp [State.fcsPerform]
@[simp] theorem State.fcsPerform_clk (f : BusFrame) (s : State) : (s.fcsPerform f).clk = s.clk := by
  simp [State.fcsPerform]
@[simp] theorem State.fcsPerform_faults (f : BusFrame) (s : State) : (s.fcsPerform f).faults = s.faults := by
  simp [State.fcsPerform]
@[simp] theorem State.fcsPerform_resp (f : BusFrame) (s : State) : (s.fcsPerform f).resp = s.resp := by
  simp [State.fcsPerform]
@[simp] theorem State.fcsPerform_inputs (f : BusFrame) (s : State) : (s.fcsPerform f).inputs = s.inputs := by
  simp [State.fcsPerform]
@[simp] theorem State.fcsPerform_sched (f : BusFrame) (s : State) : (s.fcsPerform f).sched = s.sched := by
  simp [State.fcsPerform]
@[simp] theorem State.fcsPerform_fcs (f : BusFrame) (s : State) :
    (s.fcsPerform f).fcs = { s.fcs with rbytes := s.frameBytes f } := by
  simp [State.fcsPerform]
@[simp] theorem State.fcsPerform_dev (f : BusFrame) (s : State) : (s.fcsPerform f).dev = (s.perform f).dev := by
  simp [State.fcsPerform]

end Sys2Proof.Machine
end

