-- ==== Sys2Proof/Laws/Ops.lean ====
section
/-! SUPPORT. What each shared operation can do, said once: the writes of INSTRFRAME, the window's checks, the frames of
the FCS, the start of a command, the device's primitives. -/

namespace Sys2Proof.Machine

-- One theorem at a time: fewer threads at once, so less memory.
set_option Elab.async false

/-- The kind of a row's descriptor is the row's. -/
theorem kindOf_toWord (k : Kind) (d : DescFields) : kindOf (d.toWord k) = k := by
  obtain ⟨w, a, o, ol, al, du⟩ := d
  have h1 : (DescFields.toWord k ⟨w, a, o, ol, al, du⟩).getLsbD 7 = (k != .cmd) := by
    cases k <;> cases a <;> cases o <;> cases al <;> simp [DescFields.toWord, Kind.rowBits, bitAt]
  have h2 : (DescFields.toWord k ⟨w, a, o, ol, al, du⟩).extractLsb' 12 2 =
      (match k with | .cmd => 0#2 | .regRead => 0#2 | .memRead => 1#2 | .regWrite => 2#2 | .memWrite => 3#2) := by
    cases k <;> cases a <;> cases o <;> cases al <;>
      (ext i hi; obtain rfl | rfl : i = 0 ∨ i = 1 := by omega) <;> simp [DescFields.toWord, Kind.rowBits, bitAt]
  unfold kindOf
  rw [h1, h2]
  cases k <;> rfl

/-- A write of INSTRFRAME is refused, sets ERROR, or launches its frame (R113). -/
theorem writeInstrframe_cases (v : Word) (s : State) :
    (s.fcs.busy = true ∧ writeInstrframe v s = s.raiseFault .sequencerBusy) ∨
    (s.fcs.busy = false ∧ s.bpe.fstate ≠ .idle ∧ writeInstrframe v s = s.raiseFault .frameBusy) ∨
    (s.fcs.busy = false ∧ s.bpe.fstate = .idle ∧ (s.bpe.running && descValid v) = false ∧
      writeInstrframe v s = (s.storeFrame v).flag flagError) ∨
    (s.fcs.busy = false ∧ s.bpe.fstate = .idle ∧ (s.bpe.running && descValid v) = true ∧
      writeInstrframe v s = (s.storeFrame v).launch v) := by
  unfold writeInstrframe
  by_cases hb : s.fcs.busy = true
  · simp [hb]
  · by_cases hf : s.bpe.fstate = .idle
    · cases hv : (s.bpe.running && descValid v) <;> simp [hb, hf]
    · simp [hb, hf]

/-- A window access that no fault refuses belongs to an armed or open frame of the right direction, at an offset the
frame allows (R125 to R130). -/
theorem windowCheck_ok {s : State} {w : Bool} {o : Word} {n : Nat} {f : Frame} {isOpen : Bool}
    (h : windowCheck s w o n = .ok (f, isOpen)) :
    windowAligned s.cfg o n = true ∧ s.fcs.busy = false ∧ s.bpe.fdesc = some f ∧
      s.bpe.fstate = (if isOpen then .opened else .armed) ∧ s.bpe.syncPending = false ∧
      directionOk f.kind w = true ∧ offsetAllowed s.bpe f isOpen o = true := by
  unfold windowCheck at h
  split at h
  · cases h
  · split at h
    · cases h
    · split at h
      · cases h
      · rename_i g b hd
        split at h
        · cases h
        · split at h
          · cases h
          · split at h
            · cases h
            · obtain ⟨rfl, rfl⟩ : g = f ∧ b = isOpen := by simpa using h
              unfold Bpe.dataFrame at hd
              split at hd <;> simp_all

/-- A frame of the FCS that the disabled engine never runs (R120). -/
theorem run_disabled (f : BusFrame) (k : List Byte → State → State) {s : State} (h : s.bpe.running = false) :
    s.run f k = s.finish .busTimeout := by
  simp [State.run, h]

/-- A frame of the FCS on a stalled bus (R120). -/
theorem run_stalled (f : BusFrame) (k : List Byte → State → State) {s : State} (h : s.bpe.running = true)
    (hs : s.drawStall.1 = true) : s.run f k = s.drawStall.2.havoc.finish .busTimeout := by
  simp [State.run, h, hs]

/-- A frame of the FCS that is performed (R120). -/
theorem run_performed (f : BusFrame) (k : List Byte → State → State) {s : State} (h : s.busReady) :
    s.run f k = k (s.drawStall.2.frameBytes f) (s.drawStall.2.fcsPerform f) := by
  simp [State.run, h.1, h.2]

/-- A SEQCTRL write is refused or starts its command (R150). -/
theorem startCommand_cases (c : Cmd) (s : State) :
    (s.fcs.busy = true ∧ startCommand c s = s.raiseFault .sequencerBusy) ∨
    (s.fcs.busy = false ∧ s.bpe.fstate ≠ .idle ∧ startCommand c s = s.raiseFault .frameBusy) ∨
    (s.fcs.busy = false ∧ s.bpe.fstate = .idle ∧ (c.onlyA && variantBit s.cfg.variant) = true ∧
      startCommand c s = s.raiseFault .illegalCommand) ∨
    (s.fcs.busy = false ∧ s.bpe.fstate = .idle ∧ (c.onlyA && variantBit s.cfg.variant) = false ∧
      startCommand c s = { s with fcs := s.fcs.start c, resp := .accepted }) := by
  unfold startCommand
  by_cases hb : s.fcs.busy = true
  · simp [hb]
  · by_cases hf : s.bpe.fstate = .idle
    · cases hv : (c.onlyA && variantBit s.cfg.variant) <;> simp [hb, hf]
    · simp [hb, hf]

/-- The FCS does nothing while no command runs (R153). -/
theorem fcsStep_idle {s : State} (h : s.fcs.busy = false) : fcsStep s = s := by simp [fcsStep, h]

/-- The FCS performs the step of the running command (R153). -/
theorem fcsStep_running {s : State} {c : Cmd} (h : s.fcs.busy = true) (hc : s.fcs.cmd = some c) :
    fcsStep s = cmdStep c s := by simp [fcsStep, h, hc]

/-- How many bytes the device supplies is how many it is asked for. -/
@[simp] theorem devBytes_length (n : Nat) (s : State) : (s.devBytes n).length = n := by
  induction n generalizing s with
  | zero => rfl
  | succ n ih => simp [State.devBytes, ih]

/-- The draws made while bytes are read: one for each. -/
@[simp] theorem devSentN_draws (n : Nat) (s : State) : (s.devSentN n).draws = s.draws + n := by
  induction n generalizing s with
  | zero => rfl
  | succ n ih => simp only [State.devSentN, ih, State.devSent_draws]; omega

/-- The device while bytes are read: only the count of the frame on the bus moves. -/
theorem devSentN_dev (n : Nat) (s : State) :
    (s.devSentN n).dev = { s.dev with cur := s.dev.cur.map fun c => { c with sent := c.sent + n } } := by
  induction n generalizing s with
  | zero => cases h : s.dev.cur <;> simp [State.devSentN, ← h]
  | succ n ih =>
    simp only [State.devSentN, ih, State.devSent_dev, Option.map_map]
    congr 1
    cases s.dev.cur <;> simp [Function.comp]; omega

/-- After the end of a frame the device holds none, and its reset-enable record is that of the frame (R211). -/
theorem devEnd_dev {s : State} {c : InFlight} (h : s.dev.cur = some c) :
    s.devEnd = { s.devEffect c with dev := { (s.devEffect c).dev with rsten := c.isRsten, cur := none } } := by
  simp [State.devEnd, h]

/-- The fault record stays a set (R54). -/
theorem insertReason_nodup {r : FaultReason} {l : List FaultReason} (h : l.Nodup) : (insertReason r l).Nodup := by
  unfold insertReason
  split
  · exact h
  · rw [List.nodup_append]
    refine ⟨h, by simp, ?_⟩
    rintro a ha b hb rfl
    simp_all

/-- A refused access's reason is in the fault record (R290). -/
theorem mem_insertReason (r : FaultReason) (l : List FaultReason) : r ∈ insertReason r l := by
  unfold insertReason
  split <;> simp_all

/-- A buffer's byte after bytes were written from an index on. -/
theorem bufGet_bufSet (b : Vector Byte 256) (i : Nat) (l : List Byte) (j : Nat) :
    bufGet (bufSet b i l) j = if i ≤ j ∧ j < i + l.length ∧ j < 256 then l[j - i]?.getD 0#8 else bufGet b j := by
  induction l generalizing b i with
  | nil => simp only [bufSet, List.length_nil]; rw [if_neg (by omega)]
  | cons x xs ih =>
    rw [bufSet, ih]
    by_cases h1 : i + 1 ≤ j ∧ j < i + 1 + xs.length ∧ j < 256
    · have h2 : i ≤ j ∧ j < i + (x :: xs).length ∧ j < 256 := by simp only [List.length_cons]; omega
      rw [if_pos h1, if_pos h2]
      obtain ⟨k, rfl⟩ : ∃ k, j = i + 1 + k := ⟨j - (i + 1), by omega⟩
      have e1 : i + 1 + k - (i + 1) = k := by omega
      have e2 : i + 1 + k - i = k + 1 := by omega
      rw [e1, e2, List.getElem?_cons_succ]
    · rw [if_neg h1]
      by_cases hj : j = i
      · subst hj
        by_cases h256 : j < 256
        · rw [if_pos (by simp only [List.length_cons]; omega)]
          simp [bufGet, h256]
        · rw [if_neg (by omega)]
          simp [bufGet, h256]
      · rw [if_neg (by simp only [List.length_cons]; omega)]
        simp only [bufGet, Vector.getElem?_setIfInBounds]
        rw [if_neg (by omega)]

end Sys2Proof.Machine
end

