-- ==== Sys2Proof/Laws/PerInstr.lean ====
section
/-! SUPPORT. A family of facts about every instruction as syntax, one lemma per constructor. -/

namespace Sys2Proof.Laws.EncodedForm

-- One theorem at a time: fewer threads at once, so less memory.
set_option Elab.async false

/-- The form of a wire: a host access of 1, 2 or 4 bytes, in the register space below SEQBUF or in the window, or a bus
frame whose opcode is in the device's table. -/
def wireForm (t : OpTable) : Wire → Prop
  | .host h => (h.size = 1 ∨ h.size = 2 ∨ h.size = 4) ∧ (h.space = .regs → h.off.toNat < 0x100)
  | .bus f => f.frame.instr ∈ t.bytes ∨ f.frame.instr = t.read444

/-- The encoding of an instruction has the form. -/
def Statement (i : Instr) : Prop := ∀ t : OpTable, wireForm t (encode t i)

theorem size_form (n : AccessSize) : n.bytes = 1 ∨ n.bytes = 2 ∨ n.bytes = 4 := by cases n <;> decide

theorem bpeCmd (d : DescFields) : Statement (.bpeCmd d) := by
  intro t; exact ⟨.inr (.inr rfl), fun _ => Nat.le_of_ble_eq_true rfl⟩

theorem bpeRegRead (d : DescFields) : Statement (.bpeRegRead d) := by
  intro t; exact ⟨.inr (.inr rfl), fun _ => Nat.le_of_ble_eq_true rfl⟩

theorem bpeMemRead (d : DescFields) : Statement (.bpeMemRead d) := by
  intro t; exact ⟨.inr (.inr rfl), fun _ => Nat.le_of_ble_eq_true rfl⟩

theorem bpeRegWrite (d : DescFields) : Statement (.bpeRegWrite d) := by
  intro t; exact ⟨.inr (.inr rfl), fun _ => Nat.le_of_ble_eq_true rfl⟩

theorem bpeMemWrite (d : DescFields) : Statement (.bpeMemWrite d) := by
  intro t; exact ⟨.inr (.inr rfl), fun _ => Nat.le_of_ble_eq_true rfl⟩

theorem bpeFrame (v : Word) : Statement (.bpeFrame v) := by
  intro t; exact ⟨.inr (.inr rfl), fun _ => Nat.le_of_ble_eq_true rfl⟩

theorem bpeSync : Statement .bpeSync := by
  intro t; exact ⟨.inr (.inr rfl), fun _ => Nat.le_of_ble_eq_true rfl⟩

theorem bpeLastXfer (enable : Bool) : Statement (.bpeLastXfer enable) := by
  intro t; exact ⟨.inr (.inr rfl), fun _ => Nat.le_of_ble_eq_true rfl⟩

theorem bpeEnable (enable : Bool) : Statement (.bpeEnable enable) := by
  intro t; exact ⟨.inr (.inr rfl), fun _ => Nat.le_of_ble_eq_true rfl⟩

theorem bpeSwrst : Statement .bpeSwrst := by
  intro t; exact ⟨.inr (.inr rfl), fun _ => Nat.le_of_ble_eq_true rfl⟩

theorem bpeClrFlag (error instrEnd seqDone : Bool) : Statement (.bpeClrFlag error instrEnd seqDone) := by
  intro t; exact ⟨.inr (.inr rfl), fun _ => Nat.le_of_ble_eq_true rfl⟩

theorem bpeIntenSet (error instrEnd seqDone : Bool) : Statement (.bpeIntenSet error instrEnd seqDone) := by
  intro t; exact ⟨.inr (.inr rfl), fun _ => Nat.le_of_ble_eq_true rfl⟩

theorem bpeIntenClr (error instrEnd seqDone : Bool) : Statement (.bpeIntenClr error instrEnd seqDone) := by
  intro t; exact ⟨.inr (.inr rfl), fun _ => Nat.le_of_ble_eq_true rfl⟩

theorem winRead (n : AccessSize) (o : Word) : Statement (.winRead n o) := by
  intro t; exact ⟨size_form n, nofun⟩

theorem winWrite (n : AccessSize) (o : Word) (v : Word) : Statement (.winWrite n o v) := by
  intro t; exact ⟨size_form n, nofun⟩

theorem seqReset : Statement .seqReset := by
  intro t; exact ⟨.inr (.inr rfl), fun _ => Nat.le_of_ble_eq_true rfl⟩

theorem seqReadJedecId : Statement .seqReadJedecId := by
  intro t; exact ⟨.inr (.inr rfl), fun _ => Nat.le_of_ble_eq_true rfl⟩

theorem seqReadStatus : Statement .seqReadStatus := by
  intro t; exact ⟨.inr (.inr rfl), fun _ => Nat.le_of_ble_eq_true rfl⟩

theorem seqWriteEnable : Statement .seqWriteEnable := by
  intro t; exact ⟨.inr (.inr rfl), fun _ => Nat.le_of_ble_eq_true rfl⟩

theorem seqEnableQuadIo : Statement .seqEnableQuadIo := by
  intro t; exact ⟨.inr (.inr rfl), fun _ => Nat.le_of_ble_eq_true rfl⟩

theorem seqSectorErase : Statement .seqSectorErase := by
  intro t; exact ⟨.inr (.inr rfl), fun _ => Nat.le_of_ble_eq_true rfl⟩

theorem seqPageProgram : Statement .seqPageProgram := by
  intro t; exact ⟨.inr (.inr rfl), fun _ => Nat.le_of_ble_eq_true rfl⟩

theorem seqHighSpeedRead : Statement .seqHighSpeedRead := by
  intro t; exact ⟨.inr (.inr rfl), fun _ => Nat.le_of_ble_eq_true rfl⟩

theorem seqWaitReady : Statement .seqWaitReady := by
  intro t; exact ⟨.inr (.inr rfl), fun _ => Nat.le_of_ble_eq_true rfl⟩

theorem seqSetDummyCycles : Statement .seqSetDummyCycles := by
  intro t; exact ⟨.inr (.inr rfl), fun _ => Nat.le_of_ble_eq_true rfl⟩

theorem seqEnter4Byte : Statement .seqEnter4Byte := by
  intro t; exact ⟨.inr (.inr rfl), fun _ => Nat.le_of_ble_eq_true rfl⟩

theorem seqExit4Byte : Statement .seqExit4Byte := by
  intro t; exact ⟨.inr (.inr rfl), fun _ => Nat.le_of_ble_eq_true rfl⟩

theorem seqClrDone : Statement .seqClrDone := by
  intro t; exact ⟨.inr (.inr rfl), fun _ => Nat.le_of_ble_eq_true rfl⟩

theorem crcInit (snoop : Bool) : Statement (.crcInit snoop) := by
  intro t; exact ⟨.inr (.inr rfl), fun _ => Nat.le_of_ble_eq_true rfl⟩

theorem crcSnoop (snoop : Bool) : Statement (.crcSnoop snoop) := by
  intro t; exact ⟨.inr (.inr rfl), fun _ => Nat.le_of_ble_eq_true rfl⟩

theorem crcFeed8 (v : BitVec 8) : Statement (.crcFeed8 v) := by
  intro t; exact ⟨.inl rfl, fun _ => Nat.le_of_ble_eq_true rfl⟩

theorem crcFeed16 (v : BitVec 16) : Statement (.crcFeed16 v) := by
  intro t; exact ⟨.inr (.inl rfl), fun _ => Nat.le_of_ble_eq_true rfl⟩

theorem crcFeed32 (v : BitVec 32) : Statement (.crcFeed32 v) := by
  intro t; exact ⟨.inr (.inr rfl), fun _ => Nat.le_of_ble_eq_true rfl⟩

theorem crcLoad (v : Word) : Statement (.crcLoad v) := by
  intro t; exact ⟨.inr (.inr rfl), fun _ => Nat.le_of_ble_eq_true rfl⟩

theorem crcExpect (v : Word) : Statement (.crcExpect v) := by
  intro t; exact ⟨.inr (.inr rfl), fun _ => Nat.le_of_ble_eq_true rfl⟩

theorem crcResult (r : ResultReg) : Statement (.crcResult r) := by
  intro t; cases r <;> exact ⟨.inr (.inr rfl), fun _ => Nat.le_of_ble_eq_true rfl⟩

theorem devWren (b : BusBody) : Statement (.devWren b) := by
  intro t; simp [encode, wireForm, BusBody.withOpcode, OpTable.bytes]

theorem devRdsr (b : BusBody) : Statement (.devRdsr b) := by
  intro t; simp [encode, wireForm, BusBody.withOpcode, OpTable.bytes]

theorem devRdid (b : BusBody) : Statement (.devRdid b) := by
  intro t; simp [encode, wireForm, BusBody.withOpcode, OpTable.bytes]

theorem devRdidQ (b : BusBody) : Statement (.devRdidQ b) := by
  intro t; simp [encode, wireForm, BusBody.withOpcode, OpTable.bytes]

theorem devSe (b : BusBody) : Statement (.devSe b) := by
  intro t; simp [encode, wireForm, BusBody.withOpcode, OpTable.bytes]

theorem devPp (b : BusBody) : Statement (.devPp b) := by
  intro t; simp [encode, wireForm, BusBody.withOpcode, OpTable.bytes]

theorem devRead111 (b : BusBody) : Statement (.devRead111 b) := by
  intro t; show _ ∨ _
  by_cases h : b.shape.width = .w444 <;>
    simp [BusBody.withOpcode, OpTable.read111For, h, OpTable.bytes]

theorem devRead112 (b : BusBody) : Statement (.devRead112 b) := by
  intro t; simp [encode, wireForm, BusBody.withOpcode, OpTable.bytes]

theorem devRead114 (b : BusBody) : Statement (.devRead114 b) := by
  intro t; simp [encode, wireForm, BusBody.withOpcode, OpTable.bytes]

theorem devRead122 (b : BusBody) : Statement (.devRead122 b) := by
  intro t; simp [encode, wireForm, BusBody.withOpcode, OpTable.bytes]

theorem devRead144 (b : BusBody) : Statement (.devRead144 b) := by
  intro t; simp [encode, wireForm, BusBody.withOpcode, OpTable.bytes]

theorem devRsten (b : BusBody) : Statement (.devRsten b) := by
  intro t; simp [encode, wireForm, BusBody.withOpcode, OpTable.bytes]

theorem devRst (b : BusBody) : Statement (.devRst b) := by
  intro t; simp [encode, wireForm, BusBody.withOpcode, OpTable.bytes]

theorem devEqio (b : BusBody) : Statement (.devEqio b) := by
  intro t; simp [encode, wireForm, BusBody.withOpcode, OpTable.bytes]

theorem devWrevcr (b : BusBody) : Statement (.devWrevcr b) := by
  intro t; simp [encode, wireForm, BusBody.withOpcode, OpTable.bytes]

theorem devWrvcr (b : BusBody) : Statement (.devWrvcr b) := by
  intro t; simp [encode, wireForm, BusBody.withOpcode, OpTable.bytes]

theorem devEn4b (b : BusBody) : Statement (.devEn4b b) := by
  intro t; simp [encode, wireForm, BusBody.withOpcode, OpTable.bytes]

theorem devEx4b (b : BusBody) : Statement (.devEx4b b) := by
  intro t; simp [encode, wireForm, BusBody.withOpcode, OpTable.bytes]

end Sys2Proof.Laws.EncodedForm
end

