-- ==== Sys2Proof/Tests/Slice0.lean ====
section
/-! SUPPORT. The model's own tests: ill-formed terms that the well-formedness checks refuse, one word of every
instruction written out from spec/30_encoding.md and spec/opcode_table.json, single steps from spec/95_test_vectors.md,
and for every statement with hypotheses a concrete case that meets them. -/

namespace Sys2Proof.Tests

-- One theorem at a time: fewer threads at once, so less memory.
set_option Elab.async false

open Sys2Proof.Machine

/-! ## Ill-formed terms -/

/-- A command frame sends no bytes. -/
theorem test_wf_command_sends_nothing : (Instr.devWren { BusBody.zero with out := [0x00#8] }).wf = false := by decide

/-- A write kind reads no bytes. -/
theorem test_wf_write_reads_nothing :
    (Instr.devPp { shape := { BusBody.zero.shape with kind := .memWrite }, out := [], nIn := 1 }).wf = false := by decide

/-- A read kind sends no bytes. -/
theorem test_wf_read_sends_nothing :
    (Instr.devRdsr { shape := { BusBody.zero.shape with kind := .regRead }, out := [0x01#8], nIn := 1 }).wf = false := by
  decide

/-- A descriptor that one of the five rows has is no BPE.FRAME term. -/
theorem test_wf_frame_is_no_row : (Instr.bpeFrame 0x00000090#32).wf = false := by decide

/-- A byte store has no bits above its byte. -/
theorem test_wf_store_fits : (Instr.winWrite .b1 0x0#32 0x100#32).wf = false := by decide

/-- A half-word store has no bits above it. -/
theorem test_wf_store_fits_half : (Instr.winWrite .b2 0x0#32 0x10000#32).wf = false := by decide

/-! ## A word of every instruction -/

/-- The decoder with the default opcodes of variant B. -/
def dec (w : Wire) : Decoded := decode OpTable.defaultB w

/-- A 32-bit write of a register. -/
def wr (off v : Word) : Decoded := dec (.host { dir := .write, size := 4, space := .regs, off := off, value := v })

/-- A 32-bit read of a register. -/
def rd (off : Word) : Decoded := dec (.host { dir := .read, size := 4, space := .regs, off := off, value := 0#32 })

/-- A frame with this opcode and no operands, on the bus. -/
def bus (op : Byte) : Decoded := dec (.bus (BusBody.zero.withOpcode op))

/-- The operands of a frame with an opcode alone. -/
def bz : BusBody := BusBody.zero

theorem test_decode_bpe_cmd :
    wr 0x038#32 0x00000016#32
      = .instr (.bpeCmd { width := 6#3, addrEn := false, optEn := false, optLen := 0#2, addrLen := false, dummy := 0#4 }) := by
  decide

theorem test_decode_bpe_cmd_address :
    wr 0x038#32 0x00000430#32
      = .instr (.bpeCmd { width := 0#3, addrEn := true, optEn := false, optLen := 0#2, addrLen := true, dummy := 0#4 }) := by
  decide

theorem test_decode_bpe_regread :
    wr 0x038#32 0x00000090#32
      = .instr (.bpeRegRead { width := 0#3, addrEn := false, optEn := false, optLen := 0#2, addrLen := false, dummy := 0#4 }) := by
  decide

theorem test_decode_bpe_memread :
    wr 0x038#32 0x000413F4#32
      = .instr (.bpeMemRead { width := 4#3, addrEn := true, optEn := true, optLen := 3#2, addrLen := false, dummy := 4#4 }) := by
  decide

theorem test_decode_bpe_regwrite :
    wr 0x038#32 0x00002090#32
      = .instr (.bpeRegWrite { width := 0#3, addrEn := false, optEn := false, optLen := 0#2, addrLen := false, dummy := 0#4 }) := by
  decide

theorem test_decode_bpe_memwrite :
    wr 0x038#32 0x000030B6#32
      = .instr (.bpeMemWrite { width := 6#3, addrEn := true, optEn := false, optLen := 0#2, addrLen := false, dummy := 0#4 }) := by
  decide

theorem test_decode_bpe_frame : wr 0x038#32 0x00004010#32 = .instr (.bpeFrame 0x00004010#32) := by decide

theorem test_decode_bpe_frame_kind_without_data :
    wr 0x038#32 0x00001010#32
      = .instr (.bpeFrame 0x00001010#32) := by
  decide

theorem test_decode_bpe_sync : rd 0x038#32 = .instr .bpeSync := by decide

theorem test_decode_bpe_lastxfer : wr 0x000#32 0x01000002#32 = .instr (.bpeLastXfer true) := by decide

theorem test_decode_bpe_enable : wr 0x000#32 0x00000002#32 = .instr (.bpeEnable true) := by decide

theorem test_decode_bpe_swrst : wr 0x000#32 0x01000003#32 = .instr .bpeSwrst := by decide

theorem test_decode_bpe_clrflag : wr 0x01C#32 0x00000400#32 = .instr (.bpeClrFlag false true false) := by decide

theorem test_decode_bpe_intenset : wr 0x018#32 0x00010008#32 = .instr (.bpeIntenSet true false true) := by decide

theorem test_decode_bpe_intenclr : wr 0x014#32 0xFFFFFFFF#32 = .instr (.bpeIntenClr true true true) := by decide

theorem test_decode_win_read :
    dec (.host { dir := .read, size := 4, space := .window, off := 0x1000#32, value := 0#32 })
      = .instr (.winRead .b4 0x1000#32) := by
  decide

theorem test_decode_win_write :
    dec (.host { dir := .write, size := 2, space := .window, off := 0x10#32, value := 0xBBAA#32 })
      = .instr (.winWrite .b2 0x10#32 0xBBAA#32) := by
  decide

theorem test_decode_seq_reset : wr 0x080#32 0x00000001#32 = .instr .seqReset := by decide

theorem test_decode_seq_read_jedec_id : wr 0x080#32 0x00000002#32 = .instr .seqReadJedecId := by decide

theorem test_decode_seq_read_status : wr 0x080#32 0x00000003#32 = .instr .seqReadStatus := by decide

theorem test_decode_seq_write_enable : wr 0x080#32 0x00000004#32 = .instr .seqWriteEnable := by decide

theorem test_decode_seq_enable_quad_io : wr 0x080#32 0x00000005#32 = .instr .seqEnableQuadIo := by decide

theorem test_decode_seq_sector_erase : wr 0x080#32 0x00000006#32 = .instr .seqSectorErase := by decide

theorem test_decode_seq_page_program : wr 0x080#32 0x00000007#32 = .instr .seqPageProgram := by decide

theorem test_decode_seq_high_speed_read : wr 0x080#32 0x00000008#32 = .instr .seqHighSpeedRead := by decide

theorem test_decode_seq_wait_ready : wr 0x080#32 0x00000009#32 = .instr .seqWaitReady := by decide

theorem test_decode_seq_set_dummy_cycles : wr 0x080#32 0x0000000A#32 = .instr .seqSetDummyCycles := by decide

theorem test_decode_seq_enter_4byte : wr 0x080#32 0x0000000B#32 = .instr .seqEnter4Byte := by decide

theorem test_decode_seq_exit_4byte : wr 0x080#32 0x0000000C#32 = .instr .seqExit4Byte := by decide

theorem test_decode_seq_reserved : wr 0x080#32 0x0000000D#32 = .plain (.reservedCmd 13#4) := by decide

theorem test_decode_seq_high_bits_ignored : wr 0x080#32 0xFFFFFFF1#32 = .instr .seqReset := by decide

theorem test_decode_seq_clrdone : wr 0x094#32 0x00000002#32 = .instr .seqClrDone := by decide

theorem test_decode_crc_init : wr 0x0C0#32 0x00000003#32 = .instr (.crcInit true) := by decide

theorem test_decode_crc_snoop : wr 0x0C0#32 0x00000002#32 = .instr (.crcSnoop true) := by decide

theorem test_decode_crc_feed8 :
    dec (.host { dir := .write, size := 1, space := .regs, off := 0x0C4#32, value := 0x39#32 })
      = .instr (.crcFeed8 0x39#8) := by
  decide

theorem test_decode_crc_feed16 :
    dec (.host { dir := .write, size := 2, space := .regs, off := 0x0C4#32, value := 0x3231#32 })
      = .instr (.crcFeed16 0x3231#16) := by
  decide

theorem test_decode_crc_feed32 :
    dec (.host { dir := .write, size := 4, space := .regs, off := 0x0C4#32, value := 0x34333231#32 })
      = .instr (.crcFeed32 0x34333231#32) := by
  decide

theorem test_decode_crc_load : wr 0x0C8#32 0x340BC6D9#32 = .instr (.crcLoad 0x340BC6D9#32) := by decide

theorem test_decode_crc_expect : wr 0x0D0#32 0xCBF43926#32 = .instr (.crcExpect 0xCBF43926#32) := by decide

theorem test_decode_crc_result : rd 0x0CC#32 = .instr (.crcResult .crcresult) := by decide

theorem test_decode_crc_status : rd 0x0D4#32 = .instr (.crcResult .crcstatus) := by decide

theorem test_decode_dev_wren : bus 0x06#8 = .instr (.devWren bz) := by decide

theorem test_decode_dev_rdsr : bus 0x05#8 = .instr (.devRdsr bz) := by decide

theorem test_decode_dev_rdid : bus 0x9F#8 = .instr (.devRdid bz) := by decide

theorem test_decode_dev_rdidq : bus 0xAF#8 = .instr (.devRdidQ bz) := by decide

theorem test_decode_dev_se : bus 0x20#8 = .instr (.devSe bz) := by decide

theorem test_decode_dev_pp : bus 0x02#8 = .instr (.devPp bz) := by decide

theorem test_decode_dev_read111 : bus 0x0B#8 = .instr (.devRead111 bz) := by decide

theorem test_decode_dev_read112 : bus 0x3B#8 = .instr (.devRead112 bz) := by decide

theorem test_decode_dev_read114 : bus 0x6B#8 = .instr (.devRead114 bz) := by decide

theorem test_decode_dev_read122 : bus 0xBB#8 = .instr (.devRead122 bz) := by decide

theorem test_decode_dev_read144 : bus 0xEB#8 = .instr (.devRead144 bz) := by decide

theorem test_decode_dev_rsten : bus 0x66#8 = .instr (.devRsten bz) := by decide

theorem test_decode_dev_rst : bus 0x99#8 = .instr (.devRst bz) := by decide

theorem test_decode_dev_eqio : bus 0x38#8 = .instr (.devEqio bz) := by decide

theorem test_decode_dev_wrevcr : bus 0x61#8 = .instr (.devWrevcr bz) := by decide

theorem test_decode_dev_wrvcr : bus 0x81#8 = .instr (.devWrvcr bz) := by decide

theorem test_decode_dev_en4b : bus 0xB7#8 = .instr (.devEn4b bz) := by decide

theorem test_decode_dev_ex4b : bus 0xE9#8 = .instr (.devEx4b bz) := by decide

theorem test_decode_unknown_opcode : bus 0x5A#8 = .unknownFrame (BusBody.zero.withOpcode 0x5A#8) := by decide

theorem test_decode_bad_width :
    dec (.host { dir := .write, size := 2, space := .regs, off := 0x084#32, value := 0#32 })
      = .refused .badWidth := by
  decide

theorem test_decode_bad_width_before_misaligned :
    dec (.host { dir := .read, size := 3, space := .regs, off := 0x0C5#32, value := 0#32 })
      = .refused .badWidth := by
  decide

theorem test_decode_crcdata_misaligned :
    dec (.host { dir := .write, size := 1, space := .regs, off := 0x0C5#32, value := 0#32 })
      = .refused .misaligned := by
  decide

theorem test_decode_reserved_offset : rd 0x00C#32 = .refused .reservedOffset := by decide

theorem test_decode_read_only : wr 0x020#32 0x0#32 = .refused .readOnlyWrite := by decide

theorem test_decode_seqbuf_last_byte :
    dec (.host { dir := .read, size := 1, space := .regs, off := 0x1FF#32, value := 0#32 })
      = .plain (.readBuf .b1 255) := by
  decide

theorem test_decode_seqbuf_misaligned :
    dec (.host { dir := .write, size := 4, space := .regs, off := 0x1FE#32, value := 0#32 })
      = .refused .misaligned := by
  decide

theorem test_decode_fetch_from_window :
    dec (.host { dir := .fetch, size := 4, space := .window, off := 0x0#32, value := 0#32 })
      = .refused .fetchFromWindow := by
  decide

/-! ## Single steps (spec/95_test_vectors.md) -/

/-- The parameters of the tests: the defaults of a variant, with no stall, no hang, no silent failure, and an identity
for variant A. -/
def cfgOf (v : Variant) : Params :=
  { Params.default v with
    busMayStall := false
    devSilentFail := false
    devMayHang := false
    jedecA := { mfr := 0x20#8, typ := 0xBA#8, capid := 0x18#8 }
    devId := { mfr := 0xBF#8, typ := 0x26#8, capid := 0x43#8 } }

/-- The engine enabled in memory mode, everything else as at reset. -/
def ready (v : Variant) : State :=
  { State.reset with cfg := cfgOf v, bpe := { Bpe.powerOn with enable := true, ctrlb := 1#32 } }

/-- A state with a device. -/
def withDev (s : State) (d : Dev) : State := { s with dev := d }

/-- A device at rest with a few bytes in its array. -/
def dev0 : Dev := Dev.powerOn (cfgOf .B) [(0x1000, 0x31#8), (0x1001, 0x32#8), (0x1002, 0x33#8), (0x1003, 0x34#8)]

/-- The next state, or the state itself where there is none. -/
def nextOf (o : Host.Outcome State Fault Refusal) (s : State) : State :=
  match o with
  | .next t => t
  | .fault _ => s
  | .refused _ => s

/-- The state after an instruction. -/
def after (i : Instr) (s : State) : State := nextOf (exec i s) s

/-- A command at a step, with its operands. -/
def running (s : State) (c : Cmd) (st : SeqStep) : State :=
  { s with fcs := { s.fcs with busy := true, cmd := some c, step := st } }

/-- A data frame in a state of the frame machine. -/
def framed (s : State) (f : Frame) (st : FrameState) (next : Word) : State :=
  { s with bpe := { s.bpe with fdesc := some f, fstate := st, fnext := next } }

/-- A frame of a kind, 1-1-1, with a 24-bit address where the kind is a memory one. -/
def frameOf (k : Kind) (op : Byte) (dummy : BitVec 4) : Frame :=
  { width := .w111, addrEn := k.isMem, addr32 := false, addr := 0#32, optEn := false, optLen := 0#2, opt := 0#8,
    dummy := dummy, kind := k, instr := op }

/-- The operands of a frame of a kind. -/
def bodyOf (k : Kind) (out : List Byte) (n : Nat) : BusBody :=
  { shape := { BusBody.zero.shape with kind := k }, out := out, nIn := n }

/-- The operands of a frame with an address. -/
def addressed (k : Kind) (w : WidthCode) (a : Word) (dummy : BitVec 4) (out : List Byte) (n : Nat) : BusBody :=
  { shape := { BusBody.zero.shape with kind := k, width := w, addrEn := true, addr := a, dummy := dummy }, out := out,
    nIn := n }

/-- V-B1: STATUS while the frame runs. -/
theorem test_cmd_status :
    (after (.bpeCmd { width := 0#3, addrEn := false, optEn := false, optLen := 0#2, addrLen := false, dummy := 0#4 })
      (ready .B)).statusValue = 0x00000232#32 := by decide +kernel

/-- V-B3: STATUS of an armed frame. -/
theorem test_arm_status :
    (after (.bpeRegRead { width := 0#3, addrEn := false, optEn := false, optLen := 0#2, addrLen := false,
                          dummy := 0#4 }) (ready .B)).statusValue = 0x00000012#32 := by decide +kernel

/-- V-B8: the first word of a memory read, its address from the window. -/
theorem test_window_read_word :
    (after (.winRead .b4 0x1000#32)
      (framed (withDev (ready .B) dev0) (frameOf .memRead 0x0B#8 8#4) .armed 0#32)).resp = .data 0x34333231#32 := by
  decide +kernel

/-- V-B16: the snooped word's CRC state. -/
theorem test_window_read_snooped :
    (after (.winRead .b4 0x1000#32)
      { framed (withDev (ready .B) dev0) (frameOf .memRead 0x0B#8 8#4) .armed 0#32 with
        crc := { Crc.powerOn with snoop := true } }).crc.crcstate = 0x641C1F5C#32 := by decide +kernel

/-- V-B4: the read-back is missing. -/
theorem test_window_sync_missing :
    (after (.winRead .b1 0x0#32)
      { ready .B with
        bpe := { (ready .B).bpe with syncPending := true, fstate := .armed
                                     fdesc := some (frameOf .regRead 0x05#8 0#4) } }).resp = .busError .syncMissing := by decide +kernel

/-- R128's example: `W16 WIN+0x10, 0xBBAA` sends AA then BB. -/
theorem test_window_write_order :
    (after (.winWrite .b2 0x10#32 0xBBAA#32)
      (framed (ready .B) (frameOf .memWrite 0x02#8 0#4) .opened 0x10#32)).bpe.fwdata = [0xAA#8, 0xBB#8] := by
  decide +kernel

/-- V-B12: ENABLE cannot be cleared in a frame. -/
theorem test_disable_in_frame :
    (after (.bpeLastXfer false) (framed (ready .B) (frameOf .regRead 0x05#8 0#4) .opened 4#32)).resp
      = .busError .disableInFrame := by decide +kernel

/-- V-B17: the lanes of an opcode in 4-4-4, of the address 0x001000, and a single-lane byte (R121). -/
theorem test_lanes :
    laneGroups 4 8 0x0B = [0, 11] ∧ laneGroups 4 24 0x001000 = [0, 0, 1, 0, 0, 0] ∧
      laneGroups 1 8 0x05 = [0, 0, 0, 0, 0, 1, 0, 1] ∧ laneBit 4 8 0x0B 3 1 = true ∧ laneBit 4 8 0x0B 2 1 = false := by
  decide

/-- R121: single-lane data from the device arrive on IO1, and the QFE's on IO0. -/
theorem test_pins :
    (Phase.field (Kind.dataDriver .regRead) 1 8 0x05).pin 1 5 = some (.device, true) ∧
      (Phase.field (Kind.dataDriver .regRead) 1 8 0x05).pin 0 5 = none ∧
      (Phase.field (Kind.dataDriver .regWrite) 1 8 0x05).pin 0 5 = some (.qfe, true) ∧
      (Phase.field (Kind.dataDriver .memRead) 4 8 0x80).pin 3 0 = some (.device, true) ∧
      (Phase.dummy 8).pin 0 0 = none := by decide

/-- V-B18: cycle counts (R122). -/
theorem test_cycles :
    ({ frameOf .memRead 0x0B#8 8#4 with width := .w111 } : Frame).cycles 4 = 72 ∧
      ({ frameOf .memRead 0x0B#8 6#4 with width := .w444 } : Frame).cycles 4 = 22 ∧
      ({ frameOf .memRead 0xEB#8 4#4 with width := .w144, optEn := true, optLen := 3#2 } : Frame).cycles 256 = 532 ∧
      ({ frameOf .cmd 0x66#8 0#4 with width := .w444 } : Frame).cycles 0 = 2 := by decide

/-- R65: an address on the wires. -/
theorem test_address_bytes :
    addrBytes false 0x001234#32 = [0x00#8, 0x12#8, 0x34#8] ∧
      addrBytes true 0x00002000#32 = [0x00#8, 0x00#8, 0x20#8, 0x00#8] := by decide

/-- R111: the phases of R119's example and of a command. -/
theorem test_phases :
    ({ frame := { frameOf .memWrite 0x02#8 0#4 with width := .w444, addr := 0x1000#32 }, out := [0x11#8], nIn := 0 }
        : BusFrame).phases [0x11#8] = [.field .qfe 4 8 0x02, .field .qfe 4 24 0x1000, .field .qfe 4 8 0x11] ∧
      ({ frame := frameOf .cmd 0x06#8 3#4, out := [], nIn := 0 } : BusFrame).phases []
        = [.field .qfe 1 8 0x06, .dummy 3] := by decide

/-- R167's example: the identity of an SST26VF064B. -/
theorem test_jedec_id :
    (fcsStep (running (ready .B) .readJedecId .main)).fcs.seqid = 0x004326BF#32 ∧
      (fcsStep (running (ready .B) .readJedecId .main)).seqstatusValue = 0x01000002#32 := by decide +kernel

/-- R167: an identity of neither profile is Unsupported, and SEQID holds it. -/
theorem test_jedec_id_unknown :
    (fcsStep (running { ready .B with cfg := { cfgOf .B with devId := { mfr := 1#8, typ := 2#8, capid := 3#8 } } }
      .readJedecId .main)).fcs.err = .unsupported ∧
    (fcsStep (running { ready .B with cfg := { cfgOf .B with devId := { mfr := 1#8, typ := 2#8, capid := 3#8 } } }
      .readJedecId .main)).fcs.seqid = 0x00030201#32 := by decide +kernel

/-- R165's example: RESET's end. -/
theorem test_seq_reset_end :
    (fcsStep (running (ready .B) .reset .main2)).seqstatusValue = 0x01000002#32 := by decide +kernel

/-- R175: quad enable of variant B changes both modes. -/
theorem test_quad_enable_b :
    (fcsStep (running (ready .B) .enableQuadIo .main)).fcs.quadact = true ∧
      (fcsStep (running (ready .B) .enableQuadIo .main)).dev.qpi = true := by decide +kernel

/-- R177's example: the sector that contains 0x1234. -/
theorem test_erase_sector :
    (fcsStep (running { withDev (ready .B) { dev0 with wel := true } with
      fcs := { Fcs.powerOn with seqaddr := 0x1234#32 } } .sectorErase .main)).dev.pending = some (.erase 1) := by
  decide +kernel

/-- P4: an erase beyond the capacity. -/
theorem test_erase_capacity :
    (fcsStep (running { ready .B with fcs := { Fcs.powerOn with seqaddr := 0x00800000#32 } } .sectorErase
      .check)).seqstatusValue = 0x01001042#32 := by decide +kernel

/-- R179: the length, the capacity and the straddle of a page program. -/
theorem test_program_checks :
    checkProgram (cfgOf .B) { Fcs.powerOn with seqaddr := 0x1000#32, seqlen := 0#9 } = .invalidParameter ∧
      checkProgram (cfgOf .B) { Fcs.powerOn with seqaddr := 0x1000#32, seqlen := 256#9 } = .none ∧
      checkProgram (cfgOf .B) { Fcs.powerOn with seqaddr := 0x1000#32, seqlen := 257#9 } = .invalidParameter ∧
      checkProgram (cfgOf .B) { Fcs.powerOn with seqaddr := 0x1001#32, seqlen := 256#9 } = .invalidParameter ∧
      checkProgram (cfgOf .B) { Fcs.powerOn with seqaddr := 0x007FFFFF#32, seqlen := 2#9 } = .capacityExceeded := by
  decide

/-- P2: the word a read puts into SEQBUF. -/
theorem test_high_speed_read :
    bufBytes (fcsStep (running { withDev (ready .B) dev0 with
      fcs := { Fcs.powerOn with seqaddr := 0x1000#32, seqlen := 4#9, seqparam := 0x80#32 } } .highSpeedRead
      .main)).seqbuf 0 4 = [0x31#8, 0x32#8, 0x33#8, 0x34#8] := by decide +kernel

/-- R182: width 6 in single mode, width 5, and a 1-bit option on two lanes are refused. -/
theorem test_read_params :
    paramsOk false { Fcs.powerOn with seqparam := 0x6#32 } = false ∧
      paramsOk false { Fcs.powerOn with seqparam := 0x5#32 } = false ∧
      paramsOk true { Fcs.powerOn with seqparam := 0x6#32 } = true ∧
      paramsOk false { Fcs.powerOn with seqparam := 0x103#32 } = false ∧
      paramsOk false { Fcs.powerOn with seqparam := 0x303#32 } = true := by decide

/-- R187's example: the data byte of the dummy-cycle write. -/
theorem test_vcr_byte : vcrByte { ready .A with fcs := { Fcs.powerOn with seqparam := 0xA0#32 } } = 0xAB#8 := by
  decide +kernel

/-- R159: a budget of 0 is one poll. -/
theorem test_budget_zero_is_one_poll :
    exhausted { Fcs.powerOn with polls := 1#32 } 0#32 = true ∧ exhausted { Fcs.powerOn with polls := 0#32 } 0#32 = false ∧
      exhausted { Fcs.powerOn with polls := 9#32, t0 := 0xFFFFFFFF#32, seqbudget := 0x80000002#32 } 0#32 = false ∧
      exhausted { Fcs.powerOn with polls := 9#32, t0 := 0xFFFFFFFF#32, seqbudget := 0x80000002#32 } 1#32 = true := by
  decide

/-- R241's example, its last byte. -/
theorem test_crc_feed :
    (after (.crcFeed8 0x39#8) { ready .B with
      crc := { Crc.powerOn with crcstate := crcFeed 0xFFFFFFFF#32 [0x31#8, 0x32#8, 0x33#8, 0x34#8, 0x35#8, 0x36#8,
        0x37#8, 0x38#8] } }).crc.result = 0xCBF43926#32 := by decide +kernel

/-- R245's example: the CRC of one zero byte. -/
theorem test_crc_zero_byte : crc32 [0x00#8] = 0xD202EF8D#32 := by decide

/-- R221: programming only clears bits. -/
theorem test_program_ands :
    flashRead (completedArr (cfgOf .B) (.program [(0x1000, 0x0F#8)]) dev0.arr) 0x1000 = 0x01#8 := by decide +kernel

/-- R220: an erased sector. -/
theorem test_erase_erases :
    completedArr (cfgOf .B) (.erase 1) dev0.arr = [] := by decide +kernel

/-- R218: a program wraps inside its page, and keeps the last page of its bytes. -/
theorem test_program_wraps :
    programPairs (cfgOf .B) 0x10FE [1#8, 2#8, 3#8] = [(0x10FE, 1#8), (0x10FF, 2#8), (0x1000, 3#8)] ∧
      (programPairs { cfgOf .B with pageSize := 2 } 0x1000 [1#8, 2#8, 3#8]) = [(0x1001, 2#8), (0x1000, 3#8)] := by
  decide +kernel

/-- P6: a 4-4-4 reset-enable is seen by a quad device and ignored by a single one. -/
theorem test_raw_quad_reset :
    (after (.devRsten { BusBody.zero with shape := { BusBody.zero.shape with width := .w444 } })
        (withDev (ready .B) { dev0 with qpi := true })).dev.rsten = true ∧
      (after (.devRsten { BusBody.zero with shape := { BusBody.zero.shape with width := .w444 } })
        (withDev (ready .B) dev0)).dev.rsten = false := by decide +kernel

/-- The object-store parameters of the vectors. -/
def store : StoreParams where
  magic := 0x4A424F53#32
  objBase := 0x100000
  maxSector := 16
  scratch := 64
  budgetWel := 0x10#32
  budgetErase := 0x00100000#32
  budgetProg := 0x00100000#32
  rdParam := 0x80#32

/-- The bytes "123456789". -/
def nine : List Byte := [0x31#8, 0x32#8, 0x33#8, 0x34#8, 0x35#8, 0x36#8, 0x37#8, 0x38#8, 0x39#8]

/-- V-OS1: the 28 header bytes. -/
theorem test_header_bytes :
    (buildHeader store nine 1#32 2#32).toBytes =
      [0x53#8, 0x4F#8, 0x42#8, 0x4A#8, 0x1C#8, 0#8, 0#8, 0#8, 1#8, 0#8, 0#8, 0#8, 2#8, 0#8, 0#8, 0#8, 9#8, 0#8, 0#8, 0#8,
        0x26#8, 0x39#8, 0xF4#8, 0xCB#8, 0xE5#8, 0x2F#8, 0x80#8, 0x39#8] := by decide +kernel

/-- V-OS3 and V-OS4: chunks and sectors. -/
theorem test_chunks_and_sectors :
    ((chunks 256 0x10F0 (List.replicate 28 0#8)).map fun c => (c.1, c.2.length)) = [(0x10F0, 16), (0x1100, 12)] ∧
      ((chunks 256 0x110C (List.replicate 300 0#8)).map fun c => (c.1, c.2.length)) = [(0x110C, 244), (0x1200, 56)] ∧
      sectorsToErase (cfgOf .B) 0x1FF0 37 = [1, 2] := by decide +kernel

/-- V-OS5 and V-OS6: an empty payload and an object beyond the capacity. -/
theorem test_write_checks :
    writeCheck (cfgOf .B) false 0x1000 0 = some .invalidParameter ∧
      writeCheck (cfgOf .B) false 0x007FFFF0 9 = some .capacityExceeded ∧
      writeCheck (cfgOf .B) false 0x1000 9 = none := by decide +kernel

/-- An erased ideal flash. -/
def blank : IdealFlash := { arr := [], crc := Crc.powerOn }

/-- V-OS2: the commands of a write with their states, in order. -/
theorem test_write_plan :
    writeCalls (cfgOf .B) store 0x1000 nine 1#32 2#32 =
      [(.erasing 1 1, .erase 0x1000 0x10#32), (.erasing 1 1, .waitReady 0x00100000#32),
        (.programmingHeader, .program 0x1000 (buildHeader store nine 1#32 2#32).toBytes 0x10#32),
        (.programmingHeader, .waitReady 0x00100000#32), (.programmingPayload, .program 0x101C nine 0x10#32),
        (.programmingPayload, .waitReady 0x00100000#32), (.verifying, .read 0x1000 37 0x80#32)] := by decide +kernel

/-- V-OS2 and R283: a write of an object on the ideal flash is Done, and a read gives the object back. -/
theorem test_write_then_read :
    let x := writeObject (idealHost (cfgOf .B)) (cfgOf .B) store false 0x1000 nine 1#32 2#32 blank
    let y := readObject (idealHost (cfgOf .B)) (cfgOf .B) store 0x1000 (List.replicate 12 0#8) .snooped x.2
    x.1 = .done ∧ y.1.result.toOption = some (buildHeader store nine 1#32 2#32) ∧
      y.1.dest = nine ++ [0#8, 0#8, 0#8] := by decide +kernel

/-- The machine whose flash holds the object of V-OS1, with its payload's first byte as given. -/
def stored (b : Byte) : Session where
  machine := withDev (ready .B) { dev0 with
    arr := ((buildHeader store nine 1#32 2#32).toBytes ++ b :: nine.drop 1).zipIdx.map fun x => (0x1000 + x.2, x.1) }
  turns := List.replicate 99 [.fcs]

/-- V-OS10: on the machine a flipped payload byte is Corrupt when the payload is checked, and is returned when not. -/
theorem test_read_on_machine :
    (readObject (Session.host 3) (cfgOf .B) store 0x1000 (List.replicate 9 0#8) .software (stored 0x31#8)).1.result.toOption
        = some (buildHeader store nine 1#32 2#32) ∧
      (readObject (Session.host 3) (cfgOf .B) store 0x1000 (List.replicate 9 0#8) .software (stored 0x30#8)).1.result.toOption
        = none ∧
      (readObject (Session.host 3) (cfgOf .B) store 0x1000 (List.replicate 9 0#8) .off (stored 0x30#8)).1.dest
        = 0x30#8 :: nine.drop 1 := by decide +kernel

/-- V-OS11: the sector wrapper. -/
theorem test_sector_wrapper :
    (writeSector (idealHost (cfgOf .B)) (cfgOf .B) store false 17 nine 1#32 2#32 blank).1 = .failed .capacityExceeded ∧
      (sectorAddress (cfgOf .B) store 3).toOption = some 0x103000 := by decide +kernel

/-- R68: the accesses of a copy of 7 bytes at offset 2. -/
theorem test_copy_plan : copyPlan 2 7 = [(2, .b1), (3, .b1), (4, .b4), (8, .b1)] := by decide

/-- The first four accesses of a memory operation: its set-up and its first window access, or its end. -/
def opening (l : List HostLine) : List HostTuple := (l.take 4).map HostLine.tuple

/-- V-M14: SEQBUF is little-endian. -/
theorem test_seqbuf_order :
    (execPlain (.readBuf .b1 5) (execPlain (.writeBuf .b4 4 0x44332211#32) (ready .B))).resp = .data 0x22#32 := by
  decide +kernel

/-- V-B8 and R104: a memory read inside the window is of the memory kind, and one outside it of the register kind. -/
theorem test_memory_read :
    opening (memoryRead (cfgOf .B) 0x0B#8 0#3 false 0x1000#32 none 8#4 4 9)
        = [⟨.write, 4, .regs, 0x034#32, 0x0B#32⟩, ⟨.write, 4, .regs, 0x038#32, 0x000810B0#32⟩,
            ⟨.read, 4, .regs, 0x038#32, 0#32⟩, ⟨.read, 4, .window, 0x1000#32, 0#32⟩] ∧
      opening (memoryRead (cfgOf .B) 0x0B#8 0#3 true 0x01000000#32 none 8#4 4 9)
        = [⟨.write, 4, .regs, 0x030#32, 0x01000000#32⟩, ⟨.write, 4, .regs, 0x034#32, 0x0B#32⟩,
            ⟨.write, 4, .regs, 0x038#32, 0x000804B0#32⟩, ⟨.read, 4, .regs, 0x038#32, 0#32⟩] := by decide +kernel

/-- V-B10: a memory write with no data. -/
theorem test_memory_write_empty :
    (memoryWrite (cfgOf .B) 0x20#8 0#3 false 0x2000#32 [] 9).take 5
      = [w32 0x030#32 0x2000#32, w32 0x034#32 0x20#32, w32 0x038#32 0x000030B0#32, readBack, endTransfer] := by
  decide +kernel

/-- P2: the lines of SECTOR_ERASE. -/
theorem test_seq_lines :
    seqLines .sectorErase { addr := some 0x1000#32, budget := some 0x10#32 } 5
      = [.write .b4 .regs 0x084#32 0x1000#32, .write .b4 .regs 0x090#32 0x10#32, .write .b4 .regs 0x080#32 6#32,
          .poll 0x094#32 1#32 0#32 5, .read .b4 .regs 0x094#32] := by decide

/-- R60: an address in neither range is no access of this hardware. -/
theorem test_unmapped : fetch (cfgOf .B) (.access { dir := .read, size := 4, addr := 0#32, value := 0#32 }) = .unmapped := by
  decide +kernel

/-- The clock wraps (R305). -/
theorem test_clock_wraps : (clockStep { ready .B with clk := 0xFFFFFFFF#32 }).clk = 0#32 := by decide +kernel

/-! ## Cases that meet the hypotheses of the statements

Each theorem is named after the statement; where a statement has several clauses, its theorem meets each of them, at the
boundary of its range where it has one. -/

/-- The default opcodes are distinct. -/
theorem ops_wf (d : BitVec 4) : OpTable.wf (OpTable.default d) :=
  ⟨by revert d; decide +kernel, .inl rfl⟩

theorem test_witness_DecodeOfEncode :
    OpTable.wf OpTable.defaultA ∧ OpTable.wf OpTable.defaultB ∧
      (Instr.winWrite .b1 0xFFFFFFFF#32 0xFF#32).wf = true ∧ (Instr.bpeFrame 0xFFFFFFFF#32).wf = true ∧
      (Instr.devPp (bodyOf .memWrite [0xFF#8] 0)).wf = true :=
  ⟨ops_wf _, ops_wf _, by decide, by decide, by decide⟩

/-- A host whose next input is one access. -/
def hostNext (a : HostAccess) : State := { ready .B with sched := [.host], inputs := [.access a] }

theorem test_witness_StepRunsInstruction :
    (hostNext { dir := .write, size := 4, addr := 0x42003480#32, value := 6#32 }).nextAgent = .host ∧
    fetch (cfgOf .B) (.access { dir := .write, size := 4, addr := 0x42003480#32, value := 6#32 })
      = .decoded (.instr .seqSectorErase) ∧
    route (cfgOf .B) { dir := .read, size := 1, addr := 0x04FFFFFF#32, value := 0#32 }
      = some { dir := .read, size := 1, space := .window, off := 0x00FFFFFF#32, value := 0#32 } ∧
    decodeHost { dir := .read, size := 1, space := .window, off := 0x00FFFFFF#32, value := 0#32 }
      = .instr (.winRead .b1 0x00FFFFFF#32) ∧
    decodeBus (cfgOf .B).devOps (bz.withOpcode 0x06#8) = some (.devWren bz) ∧
    -- The other kinds of input, and the other agents.
    fetch (cfgOf .B) (.access { dir := .read, size := 4, addr := 0x42003404#32, value := 0#32 })
      = .decoded (.plain (.readReg .ctrlb)) ∧
    fetch (cfgOf .B) (.frame (bz.withOpcode 0x5A#8)) = .decoded (.unknownFrame (bz.withOpcode 0x5A#8)) ∧
    fetch (cfgOf .B) (.access { dir := .read, size := 4, addr := 0#32, value := 0#32 }) = .unmapped ∧
    (ready .B).inputs = [] ∧
    -- The last bytes of both ranges, and the window's first address past its end.
    ¬ ((0x04FFFFFF#32 : Word) - (cfgOf .B).qfeBase).toNat < 512 ∧ (0x00FFFFFF#32 : Word).toNat < (cfgOf .B).winSize ∧
    ¬ ((0x05000000#32 : Word) - (cfgOf .B).qfeBase).toNat < 512 ∧ ¬ (0x01000000#32 : Word).toNat < (cfgOf .B).winSize := by
  decide +kernel

/-- Every agent can have the turn. -/
theorem test_witness_StepAgents (a : Agent) : ({ ready .B with sched := [a] } : State).nextAgent = a := rfl

theorem test_witness_RefusedAccessFaults :
    (hostNext { dir := .read, size := 4, addr := 0x4200340C#32, value := 0#32 }).nextAgent = .host ∧
    fetch (cfgOf .B) (.access { dir := .read, size := 4, addr := 0x4200340C#32, value := 0#32 })
      = .decoded (.refused .reservedOffset) ∧
    -- Each reason of the decoder, at a boundary of its range.
    decodeHost { dir := .fetch, size := 4, space := .window, off := 0#32, value := 0#32 } = .refused .fetchFromWindow ∧
    decodeHost { dir := .read, size := 3, space := .window, off := 0#32, value := 0#32 } = .refused .badWidth ∧
    decodeHost { dir := .read, size := 4, space := .regs, off := 0x1FD#32, value := 0#32 } = .refused .misaligned ∧
    decodeHost { dir := .read, size := 1, space := .regs, off := 0x0C5#32, value := 0#32 } = .refused .misaligned ∧
    decodeHost { dir := .read, size := 2, space := .regs, off := 0x0C8#32, value := 0#32 } = .refused .badWidth ∧
    decodeHost { dir := .read, size := 4, space := .regs, off := 0x0FC#32, value := 0#32 } = .refused .reservedOffset ∧
    decodeHost { dir := .write, size := 4, space := .regs, off := 0x0D4#32, value := 0#32 } = .refused .readOnlyWrite ∧
    decodeHost { dir := .write, size := 4, space := .regs, off := 0x0D0#32, value := 0#32 } ≠ .refused .readOnlyWrite := by
  decide +kernel

/-- A state whose next agent is the clock. -/
def clockNext : State := { ready .B with sched := [.clock] }

theorem test_witness_InvKept : clockNext.Inv ∧ ∃ t, step clockNext = .next t := by
  refine ⟨?_, _, rfl⟩
  constructor
  all_goals first
    | exact ⟨List.Pairwise.nil, nofun⟩
    | decide +kernel

/-- A state whose next agent is the FCS, at the last step of a command. -/
def fcsNext (v : Variant) (c : Cmd) (st : SeqStep) : State := { running (ready v) c st with sched := [.fcs] }

theorem test_witness_DeviceModeWriters :
    (∃ t, step (fcsNext .B .enableQuadIo .main) = .next t ∧ t.fcs.quadact = true) ∧
    (∃ t, step { fcsNext .B .reset .main2 with fcs := { (fcsNext .B .reset .main2).fcs with quadact := true } } = .next t ∧
      t.fcs.quadact = false) ∧
    (∃ t, step (fcsNext .A .enter4Byte .main) = .next t ∧ t.fcs.addr4 = true) ∧
    (∃ t, step { fcsNext .A .exit4Byte .main with fcs := { (fcsNext .A .exit4Byte .main).fcs with addr4 := true } }
      = .next t ∧ t.fcs.addr4 = false) ∧
    (∃ t, step { ready .B with sched := [.host], inputs := [.powerOn true], fcs := { Fcs.powerOn with quadact := true } }
      = .next t ∧ t.fcs.quadact = false) :=
  ⟨⟨_, rfl, by decide +kernel⟩, ⟨_, rfl, by decide +kernel⟩, ⟨_, rfl, by decide +kernel⟩, ⟨_, rfl, by decide +kernel⟩,
    ⟨_, rfl, by decide +kernel⟩⟩

/-- A burst of 32 bits that touches five bytes: bits 7 to 38. -/
theorem test_witness_CrcDetectsShortBurst :
    let m : List Byte := [0#8, 0#8, 0#8, 0#8, 0#8]
    let m' : List Byte := [0x80#8, 0xFF#8, 1#8, 0#8, 0x40#8]
    m.length = m'.length ∧ m ≠ m' ∧ ∀ i, (m[i / 8]?.getD 0#8).getLsbD (i % 8) ≠ (m'[i / 8]?.getD 0#8).getLsbD (i % 8) →
      7 ≤ i ∧ i < 7 + 32 := by
  refine ⟨rfl, by decide, fun i h => ?_⟩
  by_cases hi : i < 40
  · revert h; revert hi; revert i; decide
  · rw [List.getElem?_eq_none, List.getElem?_eq_none] at h
    · exact absurd rfl h
    · simp only [List.length_cons, List.length_nil]; omega
    · simp only [List.length_cons, List.length_nil]; omega

/-- The fields of a descriptor of opcode alone, 1-1-1, with the most dummy cycles. -/
def fields0 : DescFields :=
  { width := 0#3, addrEn := false, optEn := false, optLen := 0#2, addrLen := false, dummy := 15#4 }

/-- The hypotheses of a frame's start. -/
def canStart (s : State) : Bool :=
  !s.fcs.busy && decide (s.bpe.fstate = .idle) && s.bpe.enable && s.bpe.ctrlb.getLsbD 0

theorem test_witness_CmdFrameStarts : canStart (ready .B) = true ∧ descValid (fields0.toWord .cmd) = true := by
  decide +kernel

theorem test_witness_DataFrameArms :
    canStart (ready .B) = true ∧ descValid (fields0.toWord .regRead) = true ∧
      descValid (fields0.toWord .memRead) = true ∧ descValid (fields0.toWord .regWrite) = true ∧
      descValid (fields0.toWord .memWrite) = true := by decide +kernel

theorem test_witness_OtherDescriptorSetsError :
    frameValueWf 0x00000000#32 = true ∧ frameValueWf 0xFFFFFFFF#32 = true ∧ frameValueWf 0x00100010#32 = true ∧
      (ready .B).fcs.busy = false ∧ (ready .B).bpe.fstate = .idle := by decide +kernel

theorem test_witness_FrameWriteRefused :
    (running (ready .B) .reset .check).fcs.busy = true ∧
      (framed (ready .B) (frameOf .regRead 0x05#8 0#4) .armed 0#32).bpe.fstate ≠ .idle ∧
      (framed (ready .B) (frameOf .regRead 0x05#8 0#4) .armed 0#32).fcs.busy = false ∧
      State.reset.bpe.enable = false ∧ State.reset.bpe.fstate = .idle ∧
      descValid (({ fields0 with width := 7#3 } : DescFields).toWord .cmd) = false := by decide +kernel

/-- The window's hypotheses at an offset, for a frame of a kind in a state of the frame machine. -/
def windowReady (n : AccessSize) (o : Word) (s : State) : Bool :=
  decide (o.toNat % n.bytes = 0) && decide (o.toNat + n.bytes ≤ s.cfg.winSize) && !s.fcs.busy && !s.bpe.syncPending &&
    s.bpe.fdesc.isSome

theorem test_witness_WindowReadMovesBytes :
    windowReady .b4 0x00FFFFFC#32 (framed (ready .B) (frameOf .memRead 0x0B#8 8#4) .armed 0#32) = true ∧
      windowReady .b4 0#32 (framed (ready .B) (frameOf .regRead 0x05#8 0#4) .armed 0#32) = true ∧
      windowReady .b1 7#32 (framed (ready .B) (frameOf .regRead 0x05#8 0#4) .opened 7#32) = true := by decide +kernel

theorem test_witness_WindowWriteMovesBytes :
    windowReady .b4 0x00FFFFFC#32 (framed (ready .B) (frameOf .memWrite 0x02#8 0#4) .armed 0#32) = true ∧
      windowReady .b2 0#32 (framed (ready .B) (frameOf .regWrite 0x61#8 0#4) .armed 0#32) = true ∧
      windowReady .b1 7#32 (framed (ready .B) (frameOf .regWrite 0x61#8 0#4) .opened 7#32) = true := by decide +kernel

theorem test_witness_WindowAccessRefused :
    ¬ ((2#32).toNat % AccessSize.b4.bytes = 0 ∧ (2#32).toNat + AccessSize.b4.bytes ≤ (cfgOf .B).winSize) ∧
      ¬ (0x00FFFFFF + AccessSize.b2.bytes ≤ (cfgOf .B).winSize) ∧
      windowReady .b1 0x00FFFFFF#32 (framed (ready .B) (frameOf .memRead 0x0B#8 8#4) .armed 0#32) = true ∧
      (running (framed (ready .B) (frameOf .memRead 0x0B#8 8#4) .idle 0#32) .reset .check).fcs.busy = true ∧
      (framed (ready .B) (frameOf .memRead 0x0B#8 8#4) .running 0#32).bpe.fstate = .running ∧
      (frameOf .regWrite 0x61#8 0#4).kind.isRead = false ∧ (frameOf .regRead 0x05#8 0#4).kind.isMem = false ∧
      (4#32 : Word) ≠ (framed (ready .B) (frameOf .regRead 0x05#8 0#4) .opened 5#32).bpe.fnext := by decide +kernel

theorem test_witness_WordReadIsByteReads :
    ∃ x, windowCheck (framed (ready .B) (frameOf .memRead 0x0B#8 8#4) .armed 0#32) false 0x00FFFFFC#32 4 = .ok x :=
  ⟨_, rfl⟩

theorem test_witness_LastXferEndsFrame :
    (running (ready .B) .reset .check).fcs.busy = true ∧ (ready .B).bpe.fstate = .idle ∧
      (framed (ready .B) (frameOf .regRead 0x05#8 0#4) .opened 0#32).bpe.fstate = .opened ∧
      (framed (ready .B) (frameOf .regRead 0x05#8 0#4) .running 0#32).bpe.fstate = .running ∧
      (framed (ready .B) (frameOf .regRead 0x05#8 0#4) .armed 0#32).bpe.fstate = .armed ∧
      (framed (ready .B) (frameOf .regRead 0x05#8 0#4) .armed 0#32).bpe.fdesc = some (frameOf .regRead 0x05#8 0#4) ∧
      (framed (ready .B) (frameOf .regRead 0x05#8 0#4) .armed 0#32).fcs.busy = false := by decide +kernel

theorem test_witness_EnableWrites :
    (ready .B).bpe.fstate = .idle ∧
      (framed (ready .B) (frameOf .regRead 0x05#8 0#4) .armed 0#32).bpe.fstate ≠ .idle := by decide +kernel

theorem test_witness_SoftwareReset :
    (ready .B).bpe.fstate = .idle ∧
      (framed (ready .B) (frameOf .regRead 0x05#8 0#4) .opened 0#32).bpe.fstate = .opened := by decide +kernel

theorem test_witness_FrameCompletes :
    (framed (ready .B) (frameOf .cmd 0x06#8 0#4) .running 0#32).bpe.fstate = .running ∧
      (framed (ready .B) (frameOf .cmd 0x06#8 0#4) .running 0#32).bpe.stalled = false ∧
      (framed (ready .B) (frameOf .cmd 0x06#8 0#4) .running 0#32).drawStall.1 = false ∧
      (ready .B).bpe.fstate ≠ .running := by decide +kernel

theorem test_witness_SeqRowsStart :
    (ready .A).fcs.busy = false ∧ (ready .A).bpe.fstate = .idle ∧ (ready .A).cfg.variant = .A := by decide +kernel

theorem test_witness_SeqRowsRefused :
    (running (ready .B) .reset .check).fcs.busy = true ∧ (ready .B).fcs.busy = false ∧
      (framed (ready .B) (frameOf .regRead 0x05#8 0#4) .armed 0#32).bpe.fstate ≠ .idle ∧ (ready .B).bpe.fstate = .idle ∧
      (ready .B).cfg.variant = .B ∧ (0xFFFFFFFD#32 : Word).extractLsb' 0 4 ∈ [0#4, 13#4, 14#4, 15#4] := by decide +kernel

theorem test_witness_ClrDoneClears :
    (ready .B).fcs.busy = false ∧ (running (ready .B) .reset .check).fcs.busy = true := by decide +kernel

theorem test_witness_FcsFrameTable :
    WidthCode.ofBits ((0x80#32 : Word).extractLsb' 0 3) = some .w111 ∧
      WidthCode.ofBits ((0xA6#32 : Word).extractLsb' 0 3) = some .w444 ∧
      (cfgOf .B).ops.read .w111 = some 0x0B#8 ∧ (cfgOf .B).ops.read .w444 = some 0x0B#8 := by decide +kernel

/-- A state with a command at a step is at that step. -/
theorem running_atStep (s : State) (c : Cmd) (st : SeqStep) : (running s c st).atStep c st := ⟨rfl, rfl, rfl⟩

theorem test_witness_FcsBusTimeout :
    (running State.reset .waitReady .pollWip).atStep .waitReady .pollWip ∧ legalStep .B .waitReady .pollWip = true ∧
      (running State.reset .waitReady .pollWip).bpe.running = false ∧
      (running (ready .B) .waitReady .pollWip).bpe.running = true :=
  ⟨running_atStep .., by decide, by decide +kernel, by decide +kernel⟩

/-- An FCS with operands. -/
def operands (a : Word) (n : BitVec 9) (q : Word) : Fcs := { Fcs.powerOn with seqaddr := a, seqlen := n, seqparam := q }

theorem test_witness_FcsChecks :
    (∀ c, (running (ready .A) c .check).atStep c .check) ∧ (running (ready .A) .reset .check).cfg.variant = .A ∧
      (ready .B).fcs.quadact = false ∧
      inCapacity (cfgOf .B) false 0x007FFFFF 1 = true ∧ inCapacity (cfgOf .B) false 0x00800000 1 = false ∧
      inCapacity { cfgOf .A with capacity := 2 ^ 32 } false 0x01000000 1 = false ∧
      inCapacity { cfgOf .A with capacity := 2 ^ 32 } true 0xFFFFFFFF 1 = true ∧
      inCapacity (cfgOf .B) false 0x1000 256 = true ∧ straddles (cfgOf .B) 0x1000 256 = false ∧
      straddles (cfgOf .B) 0x1001 256 = true ∧
      checkRead (cfgOf .B) (operands 0x1000#32 1#9 0x80#32) = .none ∧
      checkRead (cfgOf .B) (operands 0x1000#32 256#9 0x84#32) = .none ∧
      checkRead (cfgOf .B) (operands 0x1000#32 257#9 0x80#32) = .invalidParameter ∧
      checkRead (cfgOf .B) (operands 0x007FFFFF#32 2#9 0x80#32) = .capacityExceeded ∧
      checkRead (cfgOf .B) (operands 0x1000#32 1#9 0x85#32) = .invalidParameter :=
  ⟨fun _ => running_atStep .., by decide +kernel⟩

/-- The engine of a test state would perform a frame now. -/
theorem ready_busReady (v : Variant) (c : Cmd) (st : SeqStep) : (running (ready v) c st).busReady := by
  have h : (ready v).bpe.running = true := by cases v <;> decide +kernel
  exact ⟨h, rfl⟩

theorem test_witness_FcsFrameSteps :
    (∀ v c st, (running (ready v) c st).busReady ∧ (running (ready v) c st).atStep c st) ∧
      legalStep .A .exit4Byte .wren = true := ⟨fun _ _ _ => ⟨ready_busReady .., running_atStep ..⟩, by decide⟩

/-- A bit set in a byte reads back. -/
theorem withBit_get (b : Byte) (i : Fin 8) (v : Bool) : (withBit b i v).getLsbD i.val = v := by
  revert b i v; decide +kernel

/-- A write-enable poll on a device with this latch, the budget one poll or two. -/
def polling (latch : Bool) (budget : Word) : State :=
  running { withDev (ready .B) { dev0 with wel := latch } with fcs := { Fcs.powerOn with seqbudget := budget } }
    .sectorErase .pollWel

/-- The status byte of such a poll. -/
theorem polling_byte (latch : Bool) (budget : Word) :
    ((polling latch budget).drawStall.2.fcsPerform (readFrame (fRdsr (polling latch budget)) 1)).fcs.rbytes[0]?.getD 0#8
      = withBit (withBit (Config.freeByte 0 0) 0 false) 1 latch := by
  cases latch <;> rfl

theorem test_witness_PollStep :
    (∀ l b, (polling l b).atStep .sectorErase .pollWel) ∧ legalStep .B .sectorErase .pollWel = true ∧
      (∀ l b, (((polling l b).drawStall.2.fcsPerform
        (readFrame (fRdsr (polling l b)) 1)).fcs.rbytes[0]?.getD 0#8).getLsbD 1 = l) ∧
      exhausted { (polling false 1#32).fcs with polls := 1#32 } 0#32 = true ∧
      exhausted { (polling false 2#32).fcs with polls := 1#32 } 0#32 = false := by
  refine ⟨fun _ _ => running_atStep .., by decide, fun l b => ?_, by decide +kernel, by decide +kernel⟩
  rw [polling_byte]
  exact withBit_get _ 1 l

theorem test_witness_CommandTerminates :
    (running (ready .A) .exit4Byte .check).atStep .exit4Byte .check ∧ legalStep .A .exit4Byte .check = true ∧
      (running (ready .A) .exit4Byte .check).fcs.budgetMs = false ∧
      (∀ (k : Nat) (u : State), ((fun _ (v : State) => clockStep v) k u).fcs = u.fcs ∧
        ((fun _ (v : State) => clockStep v) k u).cfg = u.cfg) :=
  ⟨running_atStep .., by decide, by decide +kernel, fun _ _ => ⟨rfl, rfl⟩⟩

/-- The device of a test state is the one the QFE was built for. -/
theorem ready_matched (v : Variant) (d : Dev) (c : Cmd) (st : SeqStep) (f : Fcs)
    (h : f.quadact = d.qpi ∧ f.addr4 = d.addr4) :
    (running { withDev (ready v) d with fcs := f } c st).matched := by
  refine ⟨?_, ?_, .inr ?_, h⟩ <;> cases v <;> rfl

/-- A command on a device with its latch set. -/
def onDevice (v : Variant) (c : Cmd) (f : Fcs) : State :=
  running { withDev (ready v) { dev0 with wel := true } with fcs := f } c .main

theorem test_witness_EraseCommandErases :
    (onDevice .B .sectorErase (operands 0x007FFFFF#32 0#9 0#32)).matched ∧ OpTable.wf (cfgOf .B).devOps ∧
      (onDevice .B .sectorErase (operands 0x007FFFFF#32 0#9 0#32)).busReady ∧
      (onDevice .B .sectorErase (operands 0x007FFFFF#32 0#9 0#32)).dev.atRest ∧ 0x007FFFFF + 1 ≤ (cfgOf .B).capacity :=
  ⟨ready_matched _ _ _ _ _ ⟨rfl, rfl⟩, ops_wf _, ⟨by decide +kernel, by decide +kernel⟩, ⟨rfl, rfl⟩, by decide +kernel⟩

theorem test_witness_ProgramCommandPrograms :
    (onDevice .B .pageProgram (operands 0x1000#32 256#9 0#32)).matched ∧ OpTable.wf (cfgOf .B).devOps ∧
      (onDevice .B .pageProgram (operands 0x1000#32 256#9 0#32)).busReady ∧
      (onDevice .B .pageProgram (operands 0x1000#32 256#9 0#32)).dev.atRest ∧
      checkProgram (cfgOf .B) (operands 0x1000#32 256#9 0#32) = .none :=
  ⟨ready_matched _ _ _ _ _ ⟨rfl, rfl⟩, ops_wf _, ⟨by decide +kernel, by decide +kernel⟩, ⟨rfl, rfl⟩, by decide +kernel⟩

theorem test_witness_ReadCommandReads :
    (onDevice .B .highSpeedRead (operands 0x1000#32 256#9 0x80#32)).matched ∧ OpTable.wf (cfgOf .B).devOps ∧
      (onDevice .B .highSpeedRead (operands 0x1000#32 256#9 0x80#32)).busReady ∧
      (onDevice .B .highSpeedRead (operands 0x1000#32 256#9 0x80#32)).dev.atRest ∧
      checkRead (cfgOf .B) (operands 0x1000#32 256#9 0x80#32) = .none ∧
      turnaround (fRead (onDevice .B .highSpeedRead (operands 0x1000#32 256#9 0x80#32)))
        = devReadCycles (cfgOf .B) .w111 15#4 :=
  ⟨ready_matched _ _ _ _ _ ⟨rfl, rfl⟩, ops_wf _, ⟨by decide +kernel, by decide +kernel⟩, ⟨rfl, rfl⟩, by decide +kernel,
    by decide +kernel⟩

theorem test_witness_QuadEnableKeepsModes :
    (onDevice .A .enableQuadIo Fcs.powerOn).matched ∧ (onDevice .B .enableQuadIo Fcs.powerOn).matched ∧
      OpTable.wf (cfgOf .A).devOps ∧ (onDevice .A .enableQuadIo Fcs.powerOn).busReady ∧
      (onDevice .A .enableQuadIo Fcs.powerOn).dev.atRest ∧ (cfgOf .A).ops.evcrQuad ∈ (cfgOf .A).quadEvcr :=
  ⟨ready_matched _ _ _ _ _ ⟨rfl, rfl⟩, ready_matched _ _ _ _ _ ⟨rfl, rfl⟩, ops_wf _,
    ⟨by decide +kernel, by decide +kernel⟩, ⟨rfl, rfl⟩, by decide +kernel⟩

/-- A device frame's hypotheses hold of a test state: chip select is free and the device idle. -/
def deviceFree (s : State) : Bool := !s.bpe.csact && s.dev.pending.isNone

theorem test_witness_DevWriteEnable :
    OpTable.wf (cfgOf .B).devOps ∧ deviceFree (ready .B) = true ∧
      commandShape (ready .B).dev false 0#4 (bz.withOpcode 0x06#8).frame = true ∧ bodyEmpty bz = true :=
  ⟨ops_wf _, by decide +kernel, by decide +kernel, by decide⟩

theorem test_witness_DevStatusRead :
    (cfgOf .B).wipBit ≠ (cfgOf .B).welBit ∧ deviceFree (ready .B) = true ∧
      commandShape (ready .B).dev false 0#4 ((bodyOf .regRead [] 2).withOpcode 0x05#8).frame = true ∧
      commandShape { dev0 with qpi := true } false 2#4
        (({ bodyOf .regRead [] 2 with shape := { (bodyOf .regRead [] 2).shape with width := .w444, dummy := 2#4 } } :
          BusBody).withOpcode 0x05#8).frame = true := by decide +kernel

theorem test_witness_DevIdentityRead :
    (ready .B).dev.qpi = false ∧ commandShape (ready .B).dev false 0#4 ((bodyOf .regRead [] 5).withOpcode 0x9F#8).frame = true ∧
      (({ dev0 with qpi := true } : Dev).qpi = true) ∧
      commandShape { dev0 with qpi := true } false 2#4
        (({ bodyOf .regRead [] 5 with shape := { (bodyOf .regRead [] 5).shape with width := .w444, dummy := 2#4 } } :
          BusBody).withOpcode 0xAF#8).frame = true := by decide +kernel

/-- An array read's hypotheses on a device, its turnaround and its option aside. -/
def readReady (d : Dev) (w : WidthCode) (b : BusBody) : Bool :=
  decide ((d.qpi = true ↔ w = .w444)) && decide (b.shape.width = w) && b.shape.addrEn && b.shape.addr32 == d.addr4 &&
    b.shape.kind.isRead

/-- The frame has the turnaround the device expects. -/
def turns (d : Dev) (w : WidthCode) (b : BusBody) : Bool :=
  turnaround (b.withOpcode 0#8).frame == devReadCycles (cfgOf .B) w d.dcfg

/-- A 1-1-1 read with an 8-bit option that R202's default calls not safe. -/
def optioned : BusBody :=
  let b := addressed .memRead .w111 0#32 0#4 [] 1
  { b with shape := { b.shape with optEn := true, optLen := 3#2, opt := 0xA0#8 } }

theorem test_witness_DevArrayRead :
    let quad : Dev := { dev0 with qpi := true }
    (∀ x ∈ [(dev0, WidthCode.w111, addressed .memRead .w111 0x007FFFFF#32 8#4 [] 2),
        (dev0, .w112, addressed .memRead .w112 0#32 8#4 [] 1), (dev0, .w114, addressed .memRead .w114 0#32 8#4 [] 1),
        (dev0, .w122, addressed .memRead .w122 0#32 4#4 [] 1), (dev0, .w144, addressed .memRead .w144 0#32 6#4 [] 1),
        (quad, .w444, addressed .memRead .w444 0#32 6#4 [] 1)],
      readReady x.1 x.2.1 x.2.2 = true ∧ x.2.2.shape.optEn = false ∧ turns x.1 x.2.1 x.2.2 = true) ∧
    readReady dev0 .w111 (addressed .memRead .w111 0#32 7#4 [] 1) = true ∧
    turns dev0 .w111 (addressed .memRead .w111 0#32 7#4 [] 1) = false ∧
    readReady dev0 .w111 optioned = true ∧
    safeOption (cfgOf .B) (optioned.withOpcode 0#8).frame = false := by decide +kernel

theorem test_witness_DevEraseProgramStart :
    commandShape dev0 true 0#4 ((addressed .cmd .w111 0x00FFFFFF#32 0#4 [] 0).withOpcode 0x20#8).frame = true ∧
      bodyEmpty (addressed .cmd .w111 0x00FFFFFF#32 0#4 [] 0) = true ∧
      commandShape dev0 true 0#4
        ((addressed .memWrite .w111 0x10FF#32 0#4 (List.replicate 257 0#8) 0).withOpcode 0x02#8).frame = true ∧
      (List.replicate 257 (0#8 : Byte)).length = (cfgOf .B).pageSize + 1 := by decide +kernel

theorem test_witness_DevResetPair :
    Memory.wf (cfgOf .B).capacity dev0.arr ∧ (ready .B).bpe.csact = false ∧ bodyEmpty bz = true ∧
      commandShape dev0 false 0#4 (bz.withOpcode 0x66#8).frame = true ∧
      commandShape { dev0 with rsten := true, pending := some (.erase 1) } false 0#4 (bz.withOpcode 0x99#8).frame = true ∧
      0x0FFF ∉ (Pending.erase 1).region { cfgOf .B with sectorSize := 16 } := by decide +kernel

theorem test_witness_DevQuadAndDummyConfig :
    (cfgOf .B).devVariant = .B ∧ (cfgOf .A).devVariant = .A ∧
      commandShape dev0 false 0#4 (bz.withOpcode 0x38#8).frame = true ∧
      commandShape dev0 false 0#4 ((bodyOf .regWrite [0x7F#8] 0).withOpcode 0x61#8).frame = true ∧
      (cfgOf .A).devOps.evcrQuad = 0x7F#8 ∧
      commandShape dev0 false 0#4 ((bodyOf .regWrite [0xAB#8] 0).withOpcode 0x81#8).frame = true ∧
      (0xAB#8 : Byte).extractLsb' 0 4 = (cfgOf .A).devOps.vcrLow ∧
      (0xAC#8 : Byte).extractLsb' 0 4 ≠ (cfgOf .A).devOps.vcrLow ∧ 0x7E#8 ≠ (cfgOf .A).devOps.evcrQuad ∧
      (bodyOf .regWrite [0x7E#8] 0).out = [0x7E#8] := by decide +kernel

theorem test_witness_DevAddressMode :
    (cfgOf .A).devVariant = .A ∧ commandShape dev0 false 0#4 (bz.withOpcode 0xB7#8).frame = true ∧
      commandShape dev0 false 0#4 (bz.withOpcode 0xE9#8).frame = true ∧ bodyEmpty bz = true := by decide +kernel

/-- A table whose OP_READ(6) is a byte of its own. -/
def splitOps : OpTable := { OpTable.defaultB with read444 := 0xEC#8 }

theorem test_witness_UndecodedRows :
    OpTable.wf (cfgOf .A).devOps ∧ OpTable.wf (cfgOf .B).devOps ∧ OpTable.wf splitOps ∧ splitOps.read444 ≠ splitOps.read111 ∧
      dev0.pending = none ∧ dev0.qpi = false ∧ (cfgOf .A).devVariant = .A ∧ (cfgOf .B).devVariant = .B ∧
      0x5A#8 ∉ (cfgOf .B).devOps.bytes ∧ 0x5A#8 ≠ (cfgOf .B).devOps.read444 :=
  ⟨ops_wf _, ops_wf _, ⟨by decide +kernel, .inr (by decide +kernel)⟩, by decide +kernel⟩

theorem test_witness_UndecodedFramesIgnored :
    (bz.withOpcode 0x06#8).frame.width.cmdLanes = 1 ∧ ({ dev0 with pending := some (.erase 0) } : Dev).pending.isSome = true ∧
      (bz.withOpcode 0x06#8).frame.instr ≠ (cfgOf .B).devOps.rdsr ∧
      (bz.withOpcode 0x06#8).frame.instr ≠ (cfgOf .B).devOps.rsten ∧
      (bz.withOpcode 0x06#8).frame.instr ≠ (cfgOf .B).devOps.rst ∧ devLookup (cfgOf .B) false 0x61#8 = none ∧
      devLookup (cfgOf .A) false 0x38#8 = none := by decide +kernel

/-- A device busy with an operation. -/
def busyWith (op : Pending) : State := withDev (ready .B) { dev0 with pending := some op }

theorem test_witness_EraseCompletes :
    Memory.wf (cfgOf .B).capacity dev0.arr ∧ (busyWith (.erase 1)).drawFinish.1 = true ∧
      (busyWith (.erase 1)).drawFinish.2.drawSilent.1 = false ∧ (busyWith (.erase 1)).dev.pending = some (.erase 1) ∧
      (ready .B).dev.pending = none := by decide +kernel

theorem test_witness_ProgramCompletes :
    Memory.wf (cfgOf .B).capacity dev0.arr ∧ (busyWith (.program [(0x1000, 0#8)])).drawFinish.1 = true ∧
      (busyWith (.program [(0x1000, 0#8)])).drawFinish.2.drawSilent.1 = false ∧ 0x007FFFFF < (cfgOf .B).capacity := by
  decide +kernel

theorem test_witness_RegistersReadBack :
    (ready .B).fcs.busy = false ∧ (ready .B).bpe.fstate = .idle ∧ (running (ready .B) .reset .check).fcs.busy = true ∧
      (framed (ready .B) (frameOf .regRead 0x05#8 0#4) .armed 0#32).bpe.fstate ≠ .idle ∧
      (framed (ready .B) (frameOf .regRead 0x05#8 0#4) .armed 0#32).fcs.busy = false := by decide +kernel

theorem test_witness_SeqbufReadsBack :
    (ready .B).fcs.busy = false ∧ (running (ready .B) .reset .check).fcs.busy = true ∧
      252 + AccessSize.b4.bytes ≤ 256 ∧ 252 % AccessSize.b4.bytes = 0 := by decide +kernel

theorem test_witness_HeaderSoundAndProtected :
    store.wf ∧ 1 ≤ nine.length ∧ nine.length ≤ 64 ∧ 0x1000 + 28 + nine.length ≤ (cfgOf .B).capacity ∧
      (buildHeader store nine 1#32 2#32).toBytes[0]? ≠ some 0#8 ∧
      (buildHeader store nine 1#32 2#32).toBytes[27]? ≠ some 0#8 :=
  ⟨⟨by decide, by decide, by decide⟩, by decide, by decide, by decide +kernel, by decide +kernel, by decide +kernel⟩

theorem test_witness_ChipSelectHeld :
    (framed (ready .B) (frameOf .cmd 0x06#8 0#4) .running 0#32).bpe.csact = true := by decide +kernel

theorem test_witness_MisreadFrames :
    (ready .B).bpe.csact = false ∧ (frameOf .cmd 0x66#8 0#4).width.cmdLanes ≠ (if true then 4 else 1) ∧
      ({ frameOf .cmd 0x66#8 0#4 with width := .w444 } : Frame).width.cmdLanes ≠ (if false then 4 else 1) ∧
      ({ frameOf .cmd 0x66#8 5#4 with width := .w444 } : Frame).cycles 0 = 7 ∧
      ({ frameOf .cmd 0x66#8 6#4 with width := .w444 } : Frame).cycles 0 = 8 ∧
      -- A write row with data, and a read row of a write kind, both at the device's width.
      (frameOf .regWrite 0x06#8 0#4).width.cmdLanes = (if false then 4 else 1) ∧ dev0.pending = none ∧
      devLookup (cfgOf .B) false 0x06#8 = some .wren ∧
      rightShape (cfgOf .B) dev0 (frameOf .regWrite 0x06#8 0#4) 1 .wren = false ∧
      devLookup (cfgOf .B) false 0x05#8 = some .rdsr ∧
      rightShape (cfgOf .B) dev0 (frameOf .regWrite 0x05#8 0#4) 1 .rdsr = false := by decide +kernel

/-- The state with its frame stalled. -/
def stalledIn (s : State) : State := { s with bpe := { s.bpe with stalled := true } }

/-- R320 and I30: a power-on reset of the QFE alone during a frame that is not stalled leaves the device as it was. -/
theorem test_power_on_keeps_device :
    ((framed (withDev (ready .B) { dev0 with qpi := true, wel := true }) (frameOf .cmd 0x06#8 0#4) .running 0#32).powerOnReset
      false).dev = { dev0 with qpi := true, wel := true } := by decide +kernel

/-- R202: a profile whose device wakes in quad mode, power-cycled. -/
theorem test_power_on_profile :
    let p : Params := { cfgOf .B with devPowerOn := { defaultPowerOn with qpi := true } }
    (({ ready .B with cfg := p }).powerOnReset true).dev.qpi = true ∧ ((ready .B).powerOnReset true).dev.qpi = false := by
  decide +kernel

theorem test_witness_PowerOnResets :
    (ready .B).dev.pending = none ∧ 0x007FFFFF < (cfgOf .B).capacity ∧ (ready .B).cfg.devPowerOn = defaultPowerOn ∧
      (framed (ready .B) (frameOf .cmd 0x06#8 0#4) .running 0#32).bpe.stalled = false ∧
      (stalledIn (framed (ready .B) (frameOf .cmd 0x06#8 0#4) .running 0#32)).bpe.stalled = true := by decide +kernel

end Sys2Proof.Tests
end

/-! The laws of bits, byte order, places, registers and agents' steps, and the statements of spec/10_state.md that
follow from them. -/

namespace Sys2Proof

/-! ## Bits of a word -/

theorem getLsbD_bitAt (b : Bool) (i : Nat) {j : Nat} (hj : j < 32) :
    (bitAt b i).getLsbD j = (b && decide (j = i)) := by
  cases b with
  | false => simp [bitAt]
  | true =>
    rw [bitAt, if_pos rfl, ← BitVec.twoPow_eq, BitVec.getLsbD_twoPow]
    by_cases h : j = i
    · subst h
      simp [hj]
    · simp [h, Ne.symm h]

/-- One bit at a position is the one-bit vector, moved there. -/
theorem bitAt_eq_shiftLeft (b : Bool) (i : Nat) : bitAt b i = (BitVec.ofBool b).setWidth 32 <<< i := by
  cases b <;> simp [bitAt]

/-- A concatenation as a word: the lower part, and the upper moved above it. -/
theorem setWidth_append_word {m n : Nat} (x : BitVec m) (y : BitVec n) :
    (x ++ y).setWidth 32 = y.setWidth 32 ||| (x.setWidth 32 <<< n) := by
  apply BitVec.eq_of_getLsbD_eq
  intro j hj
  by_cases h : j < n
  · simp [BitVec.getLsbD_append, hj, h]
  · simp [BitVec.getLsbD_append, hj, h, BitVec.getLsbD_of_ge y j (by omega)]

/-- One bit of a word, cut out. -/
theorem and_bitAt_true (v : Word) (i : Nat) : v &&& bitAt true i = bitAt (v.getLsbD i) i := by
  apply BitVec.eq_of_getLsbD_eq
  intro j hj
  rw [BitVec.getLsbD_and, getLsbD_bitAt _ _ hj, getLsbD_bitAt _ _ hj]
  by_cases h : j = i <;> simp [h]

/-- The interrupt bits of a word are its bits 3, 10 and 16 (R27, R28). -/
theorem and_intMask (v : Word) :
    v &&& Machine.intMask = intBits (v.getLsbD 3) (v.getLsbD 10) (v.getLsbD 16) := by
  have hmask : Machine.intMask = bitAt true 3 ||| bitAt true 10 ||| bitAt true 16 := by decide
  rw [hmask, BitVec.and_or_distrib_left, BitVec.and_or_distrib_left, and_bitAt_true, and_bitAt_true, and_bitAt_true,
    intBits]

/-- A word of interrupt bits has no others. -/
theorem intBits_and_intMask (e i q : Bool) : intBits e i q &&& Machine.intMask = intBits e i q := by
  revert e i q
  decide

/-! ## Byte order (R63, R64) -/

@[simp] theorem AccessSize.ofBytes_bytes (n : AccessSize) : AccessSize.ofBytes n.bytes = some n := by
  cases n <;> rfl

theorem AccessSize.bytes_le_four (n : AccessSize) : n.bytes ≤ 4 := by
  cases n <;> decide

/-- The mask of an access size has the bits of its bytes. -/
theorem AccessSize.getLsbD_mask (n : AccessSize) {j : Nat} (hj : j < 32) :
    n.mask.getLsbD j = decide (j < 8 * n.bytes) := by
  revert j
  cases n <;> decide

@[simp] theorem leBytes_length (n : Nat) (v : Word) : (leBytes n v).length = n := by
  simp [leBytes]

/-- Byte `k` of a word in little-endian order is its bits `8k + 7` to `8k`. -/
theorem getElem?_leBytes {n k : Nat} (v : Word) (hk : k < n) :
    (leBytes n v)[k]? = some (v.extractLsb' (8 * k) 8) := by
  simp [leBytes, hk]

/-- Bit `j` of an assembled word is bit `j % 8` of byte `j / 8`. -/
theorem getLsbD_ofLeBytes (l : List Byte) {j : Nat} (hj : j < 32) :
    (ofLeBytes l).getLsbD j = (l[j / 8]?.getD 0#8).getLsbD (j % 8) := by
  induction l generalizing j with
  | nil => simp [ofLeBytes]
  | cons b bs ih =>
    simp only [ofLeBytes, BitVec.getLsbD_or, BitVec.getLsbD_setWidth, BitVec.getLsbD_shiftLeft, hj, decide_true,
      Bool.true_and]
    by_cases h8 : j < 8
    · simp [h8, Nat.div_eq_of_lt h8, Nat.mod_eq_of_lt h8]
    · have hdiv : j / 8 = (j - 8) / 8 + 1 := by omega
      have hmod : j % 8 = (j - 8) % 8 := by omega
      have hb : b.getLsbD j = false := BitVec.getLsbD_of_ge _ _ (by omega)
      rw [hb, ih (by omega), hdiv, hmod, List.getElem?_cons_succ]
      simp [h8]

/-- The bytes of an assembled word are those it was assembled from. -/
theorem extractLsb'_ofLeBytes (l : List Byte) {k : Nat} (hk : k < 4) :
    (ofLeBytes l).extractLsb' (8 * k) 8 = l[k]?.getD 0#8 := by
  apply BitVec.eq_of_getLsbD_eq
  intro j hj
  have hdiv : (8 * k + j) / 8 = k := by omega
  have hmod : (8 * k + j) % 8 = j := by omega
  rw [BitVec.getLsbD_extractLsb', getLsbD_ofLeBytes l (by omega), hdiv, hmod]
  simp [hj]

/-- Cutting a word into bytes and assembling them again leaves the bits of the access. -/
theorem ofLeBytes_leBytes (n : AccessSize) (v : Word) : ofLeBytes (leBytes n.bytes v) = v &&& n.mask := by
  apply BitVec.eq_of_getLsbD_eq
  intro j hj
  rw [getLsbD_ofLeBytes _ hj, BitVec.getLsbD_and, n.getLsbD_mask hj]
  by_cases hn : j / 8 < n.bytes
  · rw [getElem?_leBytes v hn, Option.getD_some, BitVec.getLsbD_extractLsb', Nat.div_add_mod]
    have h : j < 8 * n.bytes := by omega
    simp [h, Nat.mod_lt]
  · have h : ¬ j < 8 * n.bytes := by omega
    simp [h, leBytes, hn]

/-- A word assembled from at most the bytes of an access has no bit above them. -/
theorem ofLeBytes_and_mask {n : AccessSize} {l : List Byte} (hl : l.length ≤ n.bytes) :
    ofLeBytes l &&& n.mask = ofLeBytes l := by
  apply BitVec.eq_of_getLsbD_eq
  intro j hj
  rw [BitVec.getLsbD_and, n.getLsbD_mask hj, getLsbD_ofLeBytes l hj]
  by_cases h : j < 8 * n.bytes
  · simp [h]
  · have hlen : l.length ≤ j / 8 := by omega
    simp [List.getElem?_eq_none hlen]

/-! ## The places of the register space (R22, R60) -/

/-- The places of a 32-bit register: below SEQBUF and not in CRCDATA. -/
def isRegOffset (off : Nat) : Bool := decide (off < 0x100) && (decide (off < 0x0C4) || decide (0x0C7 < off))

/-- A 4-byte access at the place of a register is decoded by its offset alone (R22). -/
theorem decodeHost_reg {off : Word} (h : isRegOffset off.toNat = true) (dir : AccessDir) (v : Word) :
    decodeHost { dir := dir, size := 4, space := .regs, off := off, value := v } =
      if dir = .write then decodeRegWrite off.toNat v else decodeRegRead off.toNat := by
  simp only [isRegOffset, Bool.and_eq_true, Bool.or_eq_true, decide_eq_true_eq] at h
  have h1 : ¬ 0x100 ≤ off.toNat := by omega
  have h2 : ¬ (0x0C4 ≤ off.toNat ∧ off.toNat ≤ 0x0C7) := by omega
  simp [decodeHost, decodeRegs, h1, h2]

/-- An aligned access inside SEQBUF is decoded as one (R42, R67). -/
theorem decodeHost_seqbuf {n : AccessSize} {i : Nat} (hi : i + n.bytes ≤ 256) (ha : i % n.bytes = 0)
    (dir : AccessDir) (v : Word) :
    decodeHost { dir := dir, size := n.bytes, space := .regs, off := BitVec.ofNat 32 (0x100 + i), value := v } =
      .plain (if dir = .write then .writeBuf n i (v &&& n.mask) else .readBuf n i) := by
  have hoff : (BitVec.ofNat 32 (0x100 + i)).toNat = 0x100 + i := by
    rw [BitVec.toNat_ofNat, Nat.mod_eq_of_lt (by omega)]
  have hal : (0x100 + i) % n.bytes = 0 := by
    cases n <;> simp only [AccessSize.bytes] at ha ⊢ <;> omega
  have hend : 0x100 + i + n.bytes ≤ 0x200 := by omega
  simp only [decodeHost, decodeRegs, hoff, AccessSize.ofBytes_bytes, hal, hend, Nat.le_add_right, if_true, true_and,
    Nat.add_sub_cancel_left, beq_iff_eq]
  split <;> rfl

/-! ## The places of the registers that are read and stored (R22) -/

/-- The offset of a register that is read. -/
def ReadReg.offset : ReadReg → Word
  | .ctrla => 0x000#32
  | .ctrlb => 0x004#32
  | .baud => 0x008#32
  | .intenclr => 0x014#32
  | .intenset => 0x018#32
  | .intflag => 0x01C#32
  | .status => 0x020#32
  | .instraddr => 0x030#32
  | .instrctrl => 0x034#32
  | .seqctrl => 0x080#32
  | .seqaddr => 0x084#32
  | .seqlen => 0x088#32
  | .seqparam => 0x08C#32
  | .seqbudget => 0x090#32
  | .seqstatus => 0x094#32
  | .seqsr => 0x098#32
  | .seqid => 0x09C#32
  | .crcctrl => 0x0C0#32
  | .crcdata => 0x0C4#32
  | .crcstate => 0x0C8#32
  | .crcexpect => 0x0D0#32

/-- A 4-byte read at a register's offset is the read of that register. -/
theorem decodeHost_readReg (r : ReadReg) (v : Word) :
    decodeHost { dir := .read, size := 4, space := .regs, off := r.offset, value := v } = .plain (.readReg r) := by
  cases r with
  | crcdata => rfl
  | _ => exact decodeHost_reg (by decide) .read v

/-- CRCDATA is read at every width. -/
theorem decodeHost_read_crcdata (n : AccessSize) (v : Word) :
    decodeHost { dir := .read, size := n.bytes, space := .regs, off := 0x0C4#32, value := v } =
      .plain (.readReg .crcdata) := by
  cases n <;> rfl

/-- The register that a storage register reads as. -/
def WriteReg.readReg : WriteReg → ReadReg
  | .ctrlb => .ctrlb
  | .baud => .baud
  | .instraddr => .instraddr
  | .instrctrl => .instrctrl
  | .seqaddr => .seqaddr
  | .seqlen => .seqlen
  | .seqparam => .seqparam
  | .seqbudget => .seqbudget

/-- A 4-byte write at the offset of a storage register is the write of that register. -/
theorem decodeHost_writeReg (r : WriteReg) (v : Word) :
    decodeHost { dir := .write, size := 4, space := .regs, off := r.readReg.offset, value := v } =
      .plain (.writeReg r v) := by
  cases r <;> exact decodeHost_reg (by decide) .write v

/-- The bits of a storage register that are not reserved (R23). -/
def WriteReg.mask : WriteReg → Word
  | .ctrlb => 0xFFFFFFFF#32
  | .baud => 0xFFFFFFFF#32
  | .instraddr => 0xFFFFFFFF#32
  | .instrctrl => Machine.instrctrlMask
  | .seqaddr => 0xFFFFFFFF#32
  | .seqlen => 0x000001FF#32
  | .seqparam => Machine.seqparamMask
  | .seqbudget => Machine.seqbudgetMask

/-- SEQLEN's nine bits, read back. -/
theorem setWidth_extractLsb'_nine (v : Word) : (v.extractLsb' 0 9).setWidth 32 = v &&& 0x000001FF#32 := by
  apply BitVec.eq_of_toNat_eq
  have hmod : v.toNat &&& 511 = v.toNat % 512 := Nat.and_two_pow_sub_one_eq_mod v.toNat 9
  simp [hmod]
  omega

end Sys2Proof

namespace Sys2Proof.Machine

/-! ## SEQBUF (R42, R63) -/

@[simp] theorem bufBytes_length (b : Vector Byte 256) (i n : Nat) : (bufBytes b i n).length = n := by
  simp [bufBytes]

theorem getElem?_bufBytes {k n : Nat} (b : Vector Byte 256) (i : Nat) (hk : k < n) :
    (bufBytes b i n)[k]? = some (bufGet b (i + k)) := by
  simp [bufBytes, hk]

/-- A byte inside what was written is the byte written there. -/
theorem bufGet_bufSet_inside {i k : Nat} (b : Vector Byte 256) {l : List Byte} (hk : k < l.length)
    (hl : i + l.length ≤ 256) : bufGet (bufSet b i l) (i + k) = l[k]?.getD 0#8 := by
  rw [bufGet_bufSet, if_pos (by omega), Nat.add_sub_cancel_left]

/-- A byte outside what was written is as before. -/
theorem bufGet_bufSet_outside {i j : Nat} (b : Vector Byte 256) (l : List Byte) (hj : j < i ∨ i + l.length ≤ j) :
    bufGet (bufSet b i l) j = bufGet b j := by
  rw [bufGet_bufSet, if_neg (by omega)]

/-- The bytes read back from where a list was written are the list. -/
theorem bufBytes_bufSet {i : Nat} (b : Vector Byte 256) {l : List Byte} (hl : i + l.length ≤ 256) :
    bufBytes (bufSet b i l) i l.length = l := by
  apply List.ext_getElem?
  intro k
  by_cases hk : k < l.length
  · rw [getElem?_bufBytes _ _ hk, bufGet_bufSet_inside b hk hl, List.getElem?_eq_getElem hk, Option.getD_some]
  · rw [List.getElem?_eq_none (by simpa using hk), List.getElem?_eq_none (by simpa using hk)]

theorem writeBuf_idle (n : AccessSize) (i : Nat) (v : Word) {s : State} (h : s.fcs.busy = false) :
    writeBuf n i v s = { s with seqbuf := bufSet s.seqbuf i (leBytes n.bytes v), resp := .accepted } := by
  simp [writeBuf, h]

theorem readBuf_idle (n : AccessSize) (i : Nat) {s : State} (h : s.fcs.busy = false) :
    readBuf n i s = s.answer (ofLeBytes (bufBytes s.seqbuf i n.bytes)) := by
  simp [readBuf, h]

theorem writeBuf_busy (n : AccessSize) (i : Nat) (v : Word) {s : State} (h : s.fcs.busy = true) :
    writeBuf n i v s = s.raiseFault .sequencerBusy := by
  simp [writeBuf, h]

theorem readBuf_busy (n : AccessSize) (i : Nat) {s : State} (h : s.fcs.busy = true) :
    readBuf n i s = s.raiseFault .sequencerBusy := by
  simp [readBuf, h]

/-- A read of the bytes just written answers the written value cut to its width. -/
theorem readBuf_writeBuf {n : AccessSize} {i : Nat} (v : Word) {s : State} (h : s.fcs.busy = false)
    (hi : i + n.bytes ≤ 256) : readBuf n i (writeBuf n i v s) = (writeBuf n i v s).answer (v &&& n.mask) := by
  have hback : bufBytes (bufSet s.seqbuf i (leBytes n.bytes v)) i n.bytes = leBytes n.bytes v := by
    simpa using bufBytes_bufSet (i := i) s.seqbuf (l := leBytes n.bytes v) (by simpa using hi)
  rw [writeBuf_idle n i v h, readBuf_idle n i (by exact h), hback, ofLeBytes_leBytes]

/-- What a read of SEQBUF answers: the buffer's bytes, and zeros above them. -/
theorem seqbufWord_bytes {n : AccessSize} (b : Vector Byte 256) (i : Nat) {k : Nat} (hk : k < n.bytes) :
    (ofLeBytes (bufBytes b i n.bytes)).extractLsb' (8 * k) 8 = bufGet b (i + k) := by
  have := n.bytes_le_four
  rw [extractLsb'_ofLeBytes _ (by omega), getElem?_bufBytes b i hk, Option.getD_some]

/-- Settles O54, from the laws of byte order and of SEQBUF's bytes. -/
theorem seqbufReadsBack : Obligations.SeqbufReadsBack := by
  intro n i v s hi
  refine ⟨fun ha => ⟨decodeHost_seqbuf hi ha .write v, decodeHost_seqbuf hi ha .read v⟩, ?_, ?_, ?_⟩
  · intro hb
    have hl : i + (leBytes n.bytes v).length ≤ 256 := by simpa using hi
    have hread := readBuf_writeBuf v hb hi
    rw [writeBuf_idle n i v hb] at hread
    refine ⟨bufSet s.seqbuf i (leBytes n.bytes v), writeBuf_idle n i v hb, hread, ?_, ?_⟩
    · intro k hk
      rw [bufGet_bufSet_inside _ (by simpa using hk) hl, getElem?_leBytes v hk, Option.getD_some]
    · intro j hj
      exact bufGet_bufSet_outside _ _ (by simpa using hj)
  · intro hb
    exact ⟨_, readBuf_idle n i hb, ofLeBytes_and_mask (by simp), fun k hk => seqbufWord_bytes s.seqbuf i hk⟩
  · intro hb op hop
    rcases List.mem_pair.mp hop with rfl | rfl
    · exact writeBuf_busy n i v hb
    · exact readBuf_busy n i hb

/-! ## The agents' steps (R20, R75, R305) and the host's two ranges (R60) -/

theorem nextAgent_scheduled {s : State} {a : Agent} {rest : List Agent} (h : s.sched = a :: rest) :
    s.nextAgent = a := by
  simp [State.nextAgent, h]

theorem advance_scheduled {s : State} {a : Agent} {rest : List Agent} (h : s.sched = a :: rest) :
    s.advance = { s with sched := rest } := by
  simp [State.advance, h]

theorem advance_unscheduled {s : State} (h : s.sched = []) : s.advance = s.nextDraw := by
  simp [State.advance, h]

/-- On the host's turn its next input is used up and delivered as it decodes. -/
theorem step_host_input {s : State} {x : Input} {rest : List Input} (ha : s.nextAgent = .host)
    (hx : s.inputs = x :: rest) : step s = deliver (fetch s.cfg x) { s.advance with inputs := rest } := by
  simp [step, ha, agentStep, hostStep, hx]

theorem step_host_idle {s : State} (ha : s.nextAgent = .host) (hx : s.inputs = []) : step s = .next s.advance := by
  simp [step, ha, agentStep, hostStep, hx]

theorem step_bpe {s : State} (ha : s.nextAgent = .bpe) : step s = .next (bpeStep s.advance) := by
  simp [step, ha, agentStep]

theorem step_fcs {s : State} (ha : s.nextAgent = .fcs) : step s = .next (fcsStep s.advance) := by
  simp [step, ha, agentStep]

theorem step_device {s : State} (ha : s.nextAgent = .device) : step s = .next (devStep s.advance) := by
  simp [step, ha, agentStep]

theorem step_clock {s : State} (ha : s.nextAgent = .clock) :
    step s = .next { s.advance with clk := s.clk + 1#32 } := by
  simp [step, ha, agentStep, clockStep]

/-- An access in the register range goes there, at its offset, also where the window overlaps it. -/
theorem route_regs {p : Params} {a : HostAccess} (h : (a.addr - p.qfeBase).toNat < 512) :
    route p a = some { dir := a.dir, size := a.size, space := .regs, off := a.addr - p.qfeBase, value := a.value } :=
  if_pos h

/-- An access in the window alone goes there, at its offset. -/
theorem route_window {p : Params} {a : HostAccess} (hr : ¬ (a.addr - p.qfeBase).toNat < 512)
    (hw : (a.addr - p.winBase).toNat < p.winSize) :
    route p a = some { dir := a.dir, size := a.size, space := .window, off := a.addr - p.winBase, value := a.value } :=
  (if_neg hr).trans (if_pos hw)

/-- An access in neither range goes nowhere. -/
theorem route_unmapped {p : Params} {a : HostAccess} (hr : ¬ (a.addr - p.qfeBase).toNat < 512)
    (hw : ¬ (a.addr - p.winBase).toNat < p.winSize) : route p a = none :=
  (if_neg hr).trans (if_neg hw)

theorem fetch_routed {p : Params} {a : HostAccess} {h : HostTuple} (hr : route p a = some h) :
    fetch p (.access a) = .decoded (decodeHost h) := by
  simp [fetch, hr, decode]

theorem fetch_unrouted {p : Params} {a : HostAccess} (hr : route p a = none) : fetch p (.access a) = .unmapped := by
  simp [fetch, hr]

/-- Settles O4, from the step of each agent and the route of each access. -/
theorem stepRunsInstruction : Obligations.StepRunsInstruction := by
  refine ⟨?_, ?_, ?_, fun _ _ => rfl⟩
  · intro s x rest ha hx
    have hstep := step_host_input ha hx
    refine ⟨fun i hi => ?_, fun op ho => ?_, fun f hf => ?_, fun d hd => ?_, fun hu => ?_⟩
    · rw [hstep, hi]; rfl
    · rw [hstep, ho]; rfl
    · rw [hstep, hf]; rfl
    · rw [hstep, hd]; rfl
    · rw [hstep, hu]; rfl
  · intro s
    exact ⟨step_host_idle, step_bpe, step_fcs, step_device, step_clock,
      fun a rest h => ⟨nextAgent_scheduled h, advance_scheduled h⟩, advance_unscheduled⟩
  · intro p dir size off value
    refine ⟨fun h => ?_, fun hw hr => ?_, fun hw hr => ?_⟩
    · refine (fetch_routed (route_regs ?_)).trans ?_
      · simpa only [add_sub_cancel_left] using h
      · simp only [add_sub_cancel_left]
    · refine (fetch_routed (route_window hr ?_)).trans ?_
      · simpa only [add_sub_cancel_left] using hw
      · simp only [add_sub_cancel_left]
    · refine fetch_unrouted (route_unmapped hr ?_)
      simpa only [add_sub_cancel_left] using hw

/-! ## Flags and masks (R27, R28, R55, R136) -/

theorem exec_bpeClrFlag (e i q : Bool) (s : State) :
    exec (.bpeClrFlag e i q) s =
      .next { s with bpe := { s.bpe with intflag := s.bpe.intflag &&& ~~~ intBits e i q }, resp := .accepted } := by
  simp only [exec, execBpeClrFlag, Bpe.clearFlags, intBits_and_intMask]

theorem exec_bpeIntenSet (e i q : Bool) (s : State) :
    exec (.bpeIntenSet e i q) s =
      .next { s with bpe := { s.bpe with inten := s.bpe.inten ||| intBits e i q }, resp := .accepted } := by
  simp only [exec, execBpeIntenSet, Bpe.setEnables, intBits_and_intMask]

theorem exec_bpeIntenClr (e i q : Bool) (s : State) :
    exec (.bpeIntenClr e i q) s =
      .next { s with bpe := { s.bpe with inten := s.bpe.inten &&& ~~~ intBits e i q }, resp := .accepted } := by
  simp only [exec, execBpeIntenClr, Bpe.clearEnables, intBits_and_intMask]

theorem irq_iff (s : State) : s.irq = true ↔ s.bpe.intflag &&& s.bpe.inten ≠ 0#32 := by
  simp [State.irq]

/-- Settles O18, from the meanings of the three rows and the places of their registers. -/
theorem flagRows : Obligations.FlagRows :=
  ⟨fun e i q s => ⟨exec_bpeClrFlag e i q s, exec_bpeIntenSet e i q s, exec_bpeIntenClr e i q s⟩,
    fun v => ⟨v.getLsbD 3, v.getLsbD 10, v.getLsbD 16, and_intMask v, decodeHost_reg (by decide) .write v,
      decodeHost_reg (by decide) .write v, decodeHost_reg (by decide) .write v⟩,
    fun v s => ⟨decodeHost_readReg .intenclr v, decodeHost_readReg .intenset v, rfl, rfl⟩, rfl, irq_iff⟩

/-! ## SEQSTATUS (R39) -/

theorem exec_seqClrDone_idle {s : State} (h : s.fcs.busy = false) :
    exec .seqClrDone s = .next { s with
      fcs := { s.fcs with doneFlag := false, err := .none, failstep := .idle }, resp := .accepted } := by
  simp [exec, execSeqClrDone, h]

theorem exec_seqClrDone_busy {s : State} (h : s.fcs.busy = true) : exec .seqClrDone s = .next s.accept := by
  simp [exec, execSeqClrDone, h]

/-- Settles O29, from the two branches of SEQ.CLRDONE and the place of SEQSTATUS. -/
theorem clrDoneClears : Obligations.ClrDoneClears :=
  ⟨fun _ => ⟨exec_seqClrDone_idle, exec_seqClrDone_busy⟩, fun v => decodeHost_reg (by decide) .write v,
    fun _ => rfl⟩

/-! ## Register values (R22, R29, R39) -/

/-- STATUS, its bits from 31 down to 0 (R29). -/
theorem statusValue_fields {s : State} {frameState : BitVec 2} (hf : s.bpe.fstate.code = frameState.setWidth 32) :
    s.statusValue = (0#15 ++ BitVec.ofBool s.fcs.busy ++ 0#6 ++ BitVec.ofBool s.bpe.csact ++ 0#3 ++ frameState ++ 0#2
      ++ BitVec.ofBool s.bpe.enable ++ 0#1).setWidth 32 := by
  rw [State.statusValue, hf]
  simp only [setWidth_append_word, bitAt_eq_shiftLeft, BitVec.shiftLeft_or_distrib, ← BitVec.shiftLeft_add,
    BitVec.setWidth_zero, BitVec.zero_shiftLeft, BitVec.zero_or, BitVec.or_zero]
  simp only [Nat.reduceAdd, BitVec.or_assoc]

/-- SEQSTATUS, its bits from 31 down to 0 (R39). -/
theorem seqstatusValue_fields {s : State} {err : BitVec 3} {st fail : BitVec 4}
    (he : s.fcs.err.code = err.setWidth 32) (hs : s.fcs.step.code = st.setWidth 32)
    (hf : s.fcs.failstep.code = fail.setWidth 32) :
    s.seqstatusValue = (0#7 ++ BitVec.ofBool (variantBit s.cfg.variant) ++ 0#6 ++ BitVec.ofBool s.fcs.addr4
      ++ BitVec.ofBool s.fcs.quadact ++ fail ++ st ++ 0#1 ++ err ++ 0#2
      ++ BitVec.ofBool s.fcs.doneFlag ++ BitVec.ofBool s.fcs.busy).setWidth 32 := by
  rw [State.seqstatusValue, he, hs, hf]
  simp only [setWidth_append_word, bitAt_eq_shiftLeft, BitVec.shiftLeft_or_distrib, ← BitVec.shiftLeft_add,
    BitVec.setWidth_zero, BitVec.zero_shiftLeft, BitVec.zero_or, BitVec.or_zero, BitVec.shiftLeft_zero]
  simp only [Nat.reduceAdd, BitVec.or_assoc]

/-- A register read answers its register's value and changes nothing but the answer. -/
theorem readReg_answers {r : ReadReg} {off value : Word} (v : Word) {s : State} (ho : r.offset = off)
    (hv : regValue s r = value) :
    decodeHost { dir := .read, size := 4, space := .regs, off := off, value := v } = .plain (.readReg r) ∧
      regValue s r = value ∧ execPlain (.readReg r) s = { s with resp := .data value } := by
  subst ho hv
  exact ⟨decodeHost_readReg r v, rfl, rfl⟩

theorem regValue_reset {r : ReadReg} (h1 : r ≠ .seqstatus) (h2 : r ≠ .crcstate) :
    regValue State.reset r = 0#32 := by
  cases r with
  | seqstatus => exact absurd rfl h1
  | crcstate => exact absurd rfl h2
  | _ => rfl

/-- Settles O52, from the fields of STATUS and SEQSTATUS and the places of the registers. -/
theorem resetRegisterValues : Obligations.ResetRegisterValues := by
  refine ⟨fun r => regValue_reset, rfl, rfl, rfl, rfl, rfl, rfl, rfl, rfl, rfl, rfl, rfl, rfl, rfl, ?_,
    decodeHost_read_crcdata⟩
  intro v s frameState csact code err status seqstatus
  have hstatus : regValue s .status = status := by
    have hframe : s.bpe.fstate.code = frameState.setWidth 32 := by
      cases h : s.bpe.fstate <;> simp [frameState, h, FrameState.code]
    have hcs : s.bpe.csact = csact := by
      cases h : s.bpe.fstate <;> simp [csact, h, Bpe.csact]
    rw [regValue, statusValue_fields hframe, hcs]
    exact BitVec.setWidth_eq (n := 32) _
  have hseqstatus : regValue s .seqstatus = seqstatus := by
    have hcode (st : SeqStep) : st.code = (code st).setWidth 32 := by cases st <;> rfl
    have herr : s.fcs.err.code = err.setWidth 32 := by
      cases h : s.fcs.err <;> simp [err, h, ErrCode.code]
    have hvar : variantBit s.cfg.variant = decide (s.cfg.variant = .B) := by cases s.cfg.variant <;> rfl
    rw [regValue, seqstatusValue_fields herr (hcode _) (hcode _), hvar]
    exact BitVec.setWidth_eq (n := 32) _
  have hseqctrl : regValue s .seqctrl = 0#28 ++ s.fcs.seqctrl := BitVec.setWidth_eq_append (by decide)
  have hseqlen : regValue s .seqlen = 0#23 ++ s.fcs.seqlen := BitVec.setWidth_eq_append (by decide)
  have hseqsr : regValue s .seqsr = 0#24 ++ s.fcs.seqsr := BitVec.setWidth_eq_append (by decide)
  simp only [List.forall_mem_cons]
  exact ⟨readReg_answers v rfl rfl, readReg_answers v rfl rfl, readReg_answers v rfl rfl, readReg_answers v rfl rfl,
    readReg_answers v rfl rfl, readReg_answers v rfl rfl, readReg_answers v rfl hstatus, readReg_answers v rfl rfl,
    readReg_answers v rfl rfl, readReg_answers v rfl hseqctrl, readReg_answers v rfl rfl,
    readReg_answers v rfl hseqlen, readReg_answers v rfl rfl, readReg_answers v rfl rfl,
    readReg_answers v rfl hseqstatus, readReg_answers v rfl hseqsr, readReg_answers v rfl rfl,
    readReg_answers v rfl rfl, readReg_answers v rfl rfl, readReg_answers v rfl rfl, readReg_answers v rfl rfl,
    List.forall_mem_nil _⟩

/-! ## Storage registers (R23, R25, R26, R30, R31, R35 to R38) -/

/-- The machine with a value stored in a register, reserved bits aside, and nothing else changed. -/
def storeReg (r : WriteReg) (v : Word) (s : State) : State :=
  match r with
  | .ctrlb => { s with bpe := { s.bpe with ctrlb := v } }
  | .baud => { s with bpe := { s.bpe with baud := v } }
  | .instraddr => { s with bpe := { s.bpe with instraddr := v } }
  | .instrctrl => { s with bpe := { s.bpe with instrctrl := v &&& instrctrlMask } }
  | .seqaddr => { s with fcs := { s.fcs with seqaddr := v } }
  | .seqlen => { s with fcs := { s.fcs with seqlen := v.extractLsb' 0 9 } }
  | .seqparam => { s with fcs := { s.fcs with seqparam := v &&& seqparamMask } }
  | .seqbudget => { s with fcs := { s.fcs with seqbudget := v &&& seqbudgetMask } }

/-- CTRLB and BAUD take every write. -/
theorem writeReg_unguarded {r : WriteReg} (h : r ∈ [WriteReg.ctrlb, .baud]) (v : Word) (s : State) :
    writeReg r v s = (storeReg r v s).accept := by
  simp only [List.mem_cons, List.not_mem_nil, or_false] at h
  obtain rfl | rfl := h <;> rfl

/-- The operand registers are closed while a command runs (R35 to R38). -/
theorem writeReg_operand {r : WriteReg} (h : r ∈ [WriteReg.seqaddr, .seqlen, .seqparam, .seqbudget]) (v : Word)
    (s : State) :
    writeReg r v s = if s.fcs.busy then s.raiseFault .sequencerBusy else (storeReg r v s).accept := by
  simp only [List.mem_cons, List.not_mem_nil, or_false] at h
  obtain rfl | rfl | rfl | rfl := h <;> rfl

/-- The registers of the frame are closed while a command runs and in a frame (R124). -/
theorem writeReg_frame {r : WriteReg} (h : r ∈ [WriteReg.instraddr, .instrctrl]) (v : Word) (s : State) :
    writeReg r v s = if s.fcs.busy then s.raiseFault .sequencerBusy
      else if s.bpe.fstate ≠ .idle then s.raiseFault .frameBusy else (storeReg r v s).accept := by
  simp only [List.mem_cons, List.not_mem_nil, or_false] at h
  obtain rfl | rfl := h <;> rfl

@[simp] theorem regValue_accept (s : State) (q : ReadReg) : regValue s.accept q = regValue s q := by
  cases q <;> rfl

/-- A register reads back what was stored in it, with its reserved bits 0 (R23). -/
theorem regValue_storeReg_same (r : WriteReg) (v : Word) (s : State) :
    regValue (storeReg r v s) r.readReg = v &&& r.mask := by
  have hall : v = v &&& 0xFFFFFFFF#32 := (BitVec.and_allOnes (x := v)).symm
  cases r with
  | ctrlb => exact hall
  | baud => exact hall
  | instraddr => exact hall
  | instrctrl => rfl
  | seqaddr => exact hall
  | seqlen => exact setWidth_extractLsb'_nine v
  | seqparam => rfl
  | seqbudget => rfl

/-- Every other register reads as before. -/
theorem regValue_storeReg_other {r : WriteReg} {q : ReadReg} (h : q ≠ r.readReg) (v : Word) (s : State) :
    regValue (storeReg r v s) q = regValue s q := by
  cases r with
  | ctrlb => cases q with | ctrlb => exact absurd rfl h | _ => rfl
  | baud => cases q with | baud => exact absurd rfl h | _ => rfl
  | instraddr => cases q with | instraddr => exact absurd rfl h | _ => rfl
  | instrctrl => cases q with | instrctrl => exact absurd rfl h | _ => rfl
  | seqaddr => cases q with | seqaddr => exact absurd rfl h | _ => rfl
  | seqlen => cases q with | seqlen => exact absurd rfl h | _ => rfl
  | seqparam => cases q with | seqparam => exact absurd rfl h | _ => rfl
  | seqbudget => cases q with | seqbudget => exact absurd rfl h | _ => rfl

/-- Settles O53, from what a write of each group of registers does and what the registers then read. -/
theorem registersReadBack : Obligations.RegistersReadBack := by
  intro off r q mask v s u hrow t taken refused
  obtain ⟨rfl, rfl, rfl, rfl⟩ :
      off = r.readReg.offset ∧ q = r.readReg ∧ mask = r.mask ∧ u = storeReg r v s := by
    simp only [List.mem_cons, List.not_mem_nil, or_false, Prod.mk.injEq] at hrow
    rcases hrow with ⟨rfl, rfl, rfl, rfl, rfl⟩ | ⟨rfl, rfl, rfl, rfl, rfl⟩ | ⟨rfl, rfl, rfl, rfl, rfl⟩ |
      ⟨rfl, rfl, rfl, rfl, rfl⟩ | ⟨rfl, rfl, rfl, rfl, rfl⟩ | ⟨rfl, rfl, rfl, rfl, rfl⟩ |
      ⟨rfl, rfl, rfl, rfl, rfl⟩ | ⟨rfl, rfl, rfl, rfl, rfl⟩ <;> exact ⟨rfl, rfl, rfl, rfl⟩
  have htaken (h : t = (storeReg r v s).accept) : taken := by
    refine ⟨h, ?_, fun q' hq => ?_⟩
    · rw [h, regValue_accept, regValue_storeReg_same]
    · rw [h, regValue_accept, regValue_storeReg_other hq]
  refine ⟨decodeHost_writeReg r v, decodeHost_readReg r.readReg v, fun hr => ?_,
    fun hr => ⟨fun hb => ?_, fun hb => ?_⟩, fun hr => ⟨fun hb => ?_, fun hb hf => ?_, fun hb hf => ?_⟩⟩
  · exact htaken (writeReg_unguarded hr v s)
  · exact htaken ((writeReg_operand hr v s).trans (by simp [hb]))
  · exact (writeReg_operand hr v s).trans (if_pos hb)
  · exact (writeReg_frame hr v s).trans (if_pos hb)
  · exact (writeReg_frame hr v s).trans (by simp [hb, hf, State.raiseFault])
  · exact htaken ((writeReg_frame hr v s).trans (by simp [hb, hf]))

end Sys2Proof.Machine

/-! The laws of the host's copies, and the statement of spec/20_memory.md that rests on them. -/

namespace Sys2Proof.Machine

/-! ## Copies of bytes by the host (R67, R68, R104) -/

/-- The offsets of the bytes that an access moves, first to last. -/
def accessBytes (x : Nat × AccessSize) : List Nat := (List.range x.2.bytes).map (x.1 + ·)

/-- The bytes of an access and those from its end on are two runs that meet. -/
theorem accessBytes_append_range' {x : Nat × AccessSize} {len : Nat} (h : x.2.bytes ≤ len) :
    accessBytes x ++ List.range' (x.1 + x.2.bytes) (len - x.2.bytes) = List.range' x.1 len := by
  rw [accessBytes, ← List.range'_eq_map_range, List.range'_append_1, Nat.add_sub_cancel' h]

/-- A 4-byte access stands only at a multiple of 4, and a byte access may stand anywhere, however many steps the copy
is given. -/
theorem copySteps_aligned (fuel o len : Nat) : ∀ x ∈ copySteps fuel o len, x.1 % x.2.bytes = 0 := by
  fun_induction copySteps fuel o len with
  | case1 | case2 => exact List.forall_mem_nil _
  | case3 o len k _ hwide ih => exact List.forall_mem_cons.2 ⟨hwide.1, ih⟩
  | case4 o len k _ _ ih => exact List.forall_mem_cons.2 ⟨Nat.mod_one o, ih⟩

/-- Every access moves a byte at least, so as many steps as there are bytes move the whole range. -/
theorem flatMap_accessBytes_copySteps {fuel o len : Nat} (hfuel : len ≤ fuel) :
    (copySteps fuel o len).flatMap accessBytes = List.range' o len := by
  fun_induction copySteps fuel o len with
  | case1 o len => rw [Nat.le_zero.1 hfuel]; rfl
  | case2 => rfl
  | case3 o len k _ hwide ih =>
    rw [List.flatMap_cons, ih (by omega)]
    exact accessBytes_append_range' (x := (o, .b4)) hwide.2
  | case4 o len k hlen _ ih =>
    rw [List.flatMap_cons, ih (by omega)]
    exact accessBytes_append_range' (x := (o, .b1)) (Nat.pos_of_ne_zero hlen)

/-- Settles O57, from the alignment of every step and the run of bytes that `len` steps move. -/
theorem copyPlanCovers : Obligations.CopyPlanCovers := fun o len =>
  ⟨copySteps_aligned len o len,
    (flatMap_accessBytes_copySteps (Nat.le_refl len)).trans List.range'_eq_map_range⟩

end Sys2Proof.Machine

/-! The laws of the descriptor's fields and of the flash opcodes, and the statements of spec/30_encoding.md that rest on
them. -/

namespace Sys2Proof

/-! ## Fields of a word (R86) -/

/-- A field of a word, put back in its place, is the word cut to that field's bits. -/
theorem setWidth_extractLsb'_shiftLeft (v : Word) (i w : Nat) :
    (v.extractLsb' i w).setWidth 32 <<< i = v &&& ((BitVec.allOnes w).setWidth 32 <<< i) := by
  apply BitVec.eq_of_getLsbD_eq
  intro j hj
  by_cases hij : j < i
  · simp [hij]
  · have hback : i + (j - i) = j := by omega
    simp [hj, hij, hback, Bool.and_comm]

/-- Bit `j` of a field moved to place `i`. -/
theorem getLsbD_setWidth_shiftLeft {w : Nat} (x : BitVec w) (i : Nat) {j : Nat} (hj : j < 32) :
    (x.setWidth 32 <<< i).getLsbD j = (decide (i ≤ j) && x.getLsbD (j - i)) := by
  by_cases hij : j < i <;> simp [hj, hij, Nat.not_le.2, Nat.not_lt.1]

/-- A field of a word is known by its bits. -/
theorem extractLsb'_eq_of_getLsbD {v : Word} {i w : Nat} {x : BitVec w}
    (h : ∀ j < w, v.getLsbD (i + j) = x.getLsbD j) : v.extractLsb' i w = x :=
  BitVec.eq_of_getLsbD_eq fun j hj => by simp [hj, h j hj]

/-! ## The five descriptor rows (R86, R90) -/

/-- A bit that no row fixes belongs to a field, at the field's place. -/
theorem getLsbD_toWord_of_field (k : Kind) (d : DescFields) {j : Nat} (hj : j < 32)
    (hfield : descRowMask.getLsbD j = false) :
    (d.toWord k).getLsbD j =
      (d.width.getLsbD j || (d.addrEn && decide (j = 5)) || (d.optEn && decide (j = 6))
        || (decide (8 ≤ j) && d.optLen.getLsbD (j - 8)) || (d.addrLen && decide (j = 10))
        || (decide (16 ≤ j) && d.dummy.getLsbD (j - 16))) := by
  have hrow : (Kind.rowBits k).getLsbD j = false := by
    have hmask : Kind.rowBits k = Kind.rowBits k &&& descRowMask := by cases k <;> rfl
    rw [hmask, BitVec.getLsbD_and, hfield, Bool.and_false]
  simp only [DescFields.toWord, BitVec.getLsbD_or, getLsbD_bitAt _ _ hj, getLsbD_setWidth_shiftLeft _ _ hj, hrow]
  simp [hj]

/-- The fields of a row's descriptor are those it was written with. -/
theorem ofWord_toWord (k : Kind) (d : DescFields) : DescFields.ofWord (d.toWord k) = d := by
  have hwidth : (d.toWord k).extractLsb' 0 3 = d.width := extractLsb'_eq_of_getLsbD fun j hj => by
    interval_cases j <;> exact (getLsbD_toWord_of_field k d (by decide) rfl).trans (by simp)
  have hoptLen : (d.toWord k).extractLsb' 8 2 = d.optLen := extractLsb'_eq_of_getLsbD fun j hj => by
    interval_cases j <;> exact (getLsbD_toWord_of_field k d (by decide) rfl).trans (by simp)
  have hdummy : (d.toWord k).extractLsb' 16 4 = d.dummy := extractLsb'_eq_of_getLsbD fun j hj => by
    interval_cases j <;> exact (getLsbD_toWord_of_field k d (by decide) rfl).trans (by simp)
  have haddrEn : (d.toWord k).getLsbD 5 = d.addrEn :=
    (getLsbD_toWord_of_field k d (by decide) rfl).trans (by simp)
  have hoptEn : (d.toWord k).getLsbD 6 = d.optEn :=
    (getLsbD_toWord_of_field k d (by decide) rfl).trans (by simp)
  have haddrLen : (d.toWord k).getLsbD 10 = d.addrLen :=
    (getLsbD_toWord_of_field k d (by decide) rfl).trans (by simp)
  simp only [DescFields.ofWord, hwidth, haddrEn, hoptEn, hoptLen, haddrLen, hdummy]

/-- The fields of a descriptor are outside the bits its row fixes. -/
theorem toWord_and_descRowMask (k : Kind) (d : DescFields) : d.toWord k &&& descRowMask = Kind.rowBits k := by
  have hrow : Kind.rowBits k &&& descRowMask = Kind.rowBits k := by cases k <;> rfl
  have hwidth : d.width.setWidth 32 &&& descRowMask = 0#32 := by generalize d.width = x; revert x; decide
  have haddrEn : bitAt d.addrEn 5 &&& descRowMask = 0#32 := by cases d.addrEn <;> rfl
  have hoptEn : bitAt d.optEn 6 &&& descRowMask = 0#32 := by cases d.optEn <;> rfl
  have hoptLen : d.optLen.setWidth 32 <<< 8 &&& descRowMask = 0#32 := by generalize d.optLen = x; revert x; decide
  have haddrLen : bitAt d.addrLen 10 &&& descRowMask = 0#32 := by cases d.addrLen <;> rfl
  have hdummy : d.dummy.setWidth 32 <<< 16 &&& descRowMask = 0#32 := by generalize d.dummy = x; revert x; decide
  simp only [DescFields.toWord, BitVec.and_or_distrib_right, hrow, hwidth, haddrEn, hoptEn, hoptLen, haddrLen, hdummy,
    BitVec.or_zero]

/-- A value with the fixed bits of a row is the row's descriptor with the value's own fields. -/
theorem toWord_ofWord {v : Word} {k : Kind} (h : v &&& descRowMask = Kind.rowBits k) :
    (DescFields.ofWord v).toWord k = v := by
  have hwidth : (v.extractLsb' 0 3).setWidth 32 = v &&& 0x00000007#32 :=
    (BitVec.shiftLeft_zero _).symm.trans (setWidth_extractLsb'_shiftLeft v 0 3)
  have hoptLen : (v.extractLsb' 8 2).setWidth 32 <<< 8 = v &&& 0x00000300#32 := setWidth_extractLsb'_shiftLeft v 8 2
  have hdummy : (v.extractLsb' 16 4).setWidth 32 <<< 16 = v &&& 0x000F0000#32 := setWidth_extractLsb'_shiftLeft v 16 4
  simp only [DescFields.toWord, DescFields.ofWord, hwidth, hoptLen, hdummy, ← h, ← and_bitAt_true,
    ← BitVec.and_or_distrib_left]
  exact BitVec.and_allOnes

/-- The row of a value is the one whose fixed bits it has. -/
theorem descRow_eq_some_iff {v : Word} {k : Kind} : descRow v = some k ↔ v &&& descRowMask = Kind.rowBits k := by
  constructor
  · intro h
    unfold descRow at h
    split_ifs at h with h1 h2 h3 h4 h5 <;> cases h <;> assumption
  · intro h
    unfold descRow
    rw [h]
    cases k <;> decide

theorem descRow_toWord (k : Kind) (d : DescFields) : descRow (d.toWord k) = some k :=
  descRow_eq_some_iff.2 (toWord_and_descRowMask k d)

/-- The instruction of a kind's descriptor row. -/
def Kind.descInstr (k : Kind) (d : DescFields) : Instr :=
  match k with
  | .cmd => .bpeCmd d
  | .regRead => .bpeRegRead d
  | .memRead => .bpeMemRead d
  | .regWrite => .bpeRegWrite d
  | .memWrite => .bpeMemWrite d

theorem decodeDescriptor_toWord (k : Kind) (d : DescFields) : decodeDescriptor (d.toWord k) = k.descInstr d := by
  rw [decodeDescriptor, descRow_toWord]
  cases k <;> simp only [ofWord_toWord, Kind.descInstr]

theorem decodeDescriptor_noRow {v : Word} (h : frameValueWf v = true) : decodeDescriptor v = .bpeFrame v := by
  rw [decodeDescriptor, Option.isNone_iff_eq_none.1 h]

/-! ## Register writes, CRCDATA and the window (R22, R85, R95, R99) -/

/-- A register write is decoded by its place and its value. -/
theorem decode_regWrite (t : OpTable) {off : Word} (h : isRegOffset off.toNat = true) (v : Word) :
    decode t (regWrite off v) = decodeRegWrite off.toNat v :=
  decodeHost_reg h .write v

theorem decode_instrframe (t : OpTable) (v : Word) :
    decode t (regWrite 0x038#32 v) = .instr (decodeDescriptor v) :=
  decode_regWrite t (by decide) v

/-- The three interrupt bits are read from the places they are written to (R27, R28). -/
theorem getLsbD_intBits (e i q : Bool) :
    (intBits e i q).getLsbD 3 = e ∧ (intBits e i q).getLsbD 10 = i ∧ (intBits e i q).getLsbD 16 = q := by
  revert e i q
  decide

/-- A CRCDATA write is decoded by its width (R99). -/
theorem decode_crcDataWrite (t : OpTable) (n : AccessSize) (v : Word) :
    decode t (crcDataWrite n v) = .instr (decodeCrcData n v) := by
  cases n <;> rfl

theorem decode_encode_winRead (t : OpTable) (n : AccessSize) (o : Word) :
    decode t (encode t (.winRead n o)) = .instr (.winRead n o) := by
  cases n <;> rfl

theorem decode_encode_winWrite (t : OpTable) {n : AccessSize} (o : Word) {v : Word} (h : storeValueWf n v = true) :
    decode t (encode t (.winWrite n o v)) = .instr (.winWrite n o v) := by
  have hmask : v &&& n.mask = v := eq_of_beq h
  simp [decode, encode, decodeHost, decodeWindow, hmask]

/-! ## The opcodes on the flash bus (R100, R213) -/

/-- The device rows of the opcode table, with the opcode byte each has in a frame of this width, in the decoder's
order. -/
def busRows (t : OpTable) (w : WidthCode) : List (Byte × (BusBody → Instr)) :=
  [(t.wren, .devWren), (t.rdsr, .devRdsr), (t.rdid, .devRdid), (t.rdidQ, .devRdidQ), (t.se, .devSe), (t.pp, .devPp),
    (t.read111For w, .devRead111), (t.read112, .devRead112), (t.read114, .devRead114), (t.read122, .devRead122),
    (t.read144, .devRead144), (t.rsten, .devRsten), (t.rst, .devRst), (t.eqio, .devEqio), (t.wrevcr, .devWrevcr),
    (t.wrvcr, .devWrvcr), (t.en4b, .devEn4b), (t.ex4b, .devEx4b)]

/-- The decoder of a bus frame looks its opcode up in the device rows. -/
theorem decodeBus_eq_lookup (t : OpTable) (f : BusFrame) :
    decodeBus t f = ((busRows t f.frame.width).lookup f.frame.instr).map (· f.body) := by
  have hite (k : Byte) (row : BusBody → Instr) (rows : List (Byte × (BusBody → Instr))) :
      (((k, row) :: rows).lookup f.frame.instr).map (· f.body) =
        if f.frame.instr = k then some (row f.body) else (rows.lookup f.frame.instr).map (· f.body) := by
    by_cases h : f.frame.instr = k <;> simp [List.lookup_cons, h, beq_eq_false_iff_ne.2]
  simp only [busRows, hite]
  rfl

/-- Where no two rows have one key, a row is found by its key. -/
theorem lookup_eq_some_of_mem {α β : Type} [BEq α] [LawfulBEq α] {l : List (α × β)} (hl : (l.map Prod.fst).Nodup)
    {a : α} {b : β} (h : (a, b) ∈ l) : l.lookup a = some b := by
  obtain ⟨l₁, l₂, rfl⟩ := List.append_of_mem h
  refine List.lookup_eq_some_iff.2 ⟨l₁, l₂, rfl, fun p hp => ?_⟩
  have hne : a ≠ p.1 := by
    rintro rfl
    rw [List.map_append, List.map_cons, List.nodup_middle, List.nodup_cons] at hl
    exact hl.1 (List.mem_append_left _ (List.mem_map.2 ⟨p, hp, rfl⟩))
  exact bne_iff_ne.2 hne

/-- The rows' opcodes are the table's bytes, with OP_READ(6) for OP_READ(0) in a 4-4-4 frame. -/
theorem busRows_opcodes_perm (t : OpTable) (w : WidthCode) :
    ((busRows t w).map Prod.fst).Perm (t.bytes.set 8 (t.read111For w)) := by
  refine List.perm_iff_count.2 fun a => ?_
  simp only [busRows, OpTable.bytes, List.map_cons, List.map_nil, List.set_cons_succ, List.set_cons_zero,
    List.count_cons, List.count_nil]
  ac_rfl

/-- No two rows have the same opcode in frames of one width (R200). -/
theorem busRows_opcodes_nodup {t : OpTable} (ht : OpTable.wf t) (w : WidthCode) :
    ((busRows t w).map Prod.fst).Nodup := by
  obtain ⟨hbytes, hread⟩ := ht
  have hsame : (t.bytes.set 8 t.read111).Nodup := hbytes
  rw [(busRows_opcodes_perm t w).nodup_iff, OpTable.read111For]
  split
  · rcases hread with heq | hnew
    · rwa [heq]
    · exact hbytes.set hnew
  · exact hsame

/-- A frame with a row's opcode is decoded as that row. -/
theorem decode_busRow {t : OpTable} (ht : OpTable.wf t) {b : BusBody} {op : Byte} {row : BusBody → Instr}
    (h : (op, row) ∈ busRows t b.shape.width) : decode t (.bus (b.withOpcode op)) = .instr (row b) := by
  have hlookup : (busRows t b.shape.width).lookup op = some row :=
    lookup_eq_some_of_mem (busRows_opcodes_nodup ht _) h
  have hbus : decodeBus t (b.withOpcode op) = some (row b) := by
    rw [decodeBus_eq_lookup]
    exact congrArg (Option.map (· b)) hlookup
  rw [decode, hbus]

/-! ## Decoding after encoding (R86, R90, R95, R99, R213) -/

/-- A descriptor of each of the five rows is decoded as that row, with its fields. -/
theorem decode_encode_descInstr (t : OpTable) (k : Kind) (d : DescFields) :
    decode t (encode t (k.descInstr d)) = .instr (k.descInstr d) := by
  have hencode : encode t (k.descInstr d) = regWrite 0x038#32 (d.toWord k) := by cases k <;> rfl
  rw [hencode, decode_instrframe, decodeDescriptor_toWord]

theorem decode_encode_bpeFrame (t : OpTable) {v : Word} (h : frameValueWf v = true) :
    decode t (encode t (.bpeFrame v)) = .instr (.bpeFrame v) := by
  rw [encode, decode_instrframe, decodeDescriptor_noRow h]

/-- Settles O1, from the laws of the descriptor's rows, of register writes and of the opcodes on the bus. -/
theorem decodeOfEncode : Obligations.DecodeOfEncode := by
  intro t i ht hwf
  cases i with
  | bpeCmd d => exact decode_encode_descInstr t .cmd d
  | bpeRegRead d => exact decode_encode_descInstr t .regRead d
  | bpeMemRead d => exact decode_encode_descInstr t .memRead d
  | bpeRegWrite d => exact decode_encode_descInstr t .regWrite d
  | bpeMemWrite d => exact decode_encode_descInstr t .memWrite d
  | bpeFrame v => exact decode_encode_bpeFrame t hwf
  | bpeLastXfer en | bpeEnable en => cases en <;> rfl
  | bpeClrFlag e i q | bpeIntenSet e i q | bpeIntenClr e i q =>
    obtain ⟨he, hi, hq⟩ := getLsbD_intBits e i q
    refine (decode_regWrite t (by decide) _).trans ?_
    simp only [decodeRegWrite, BitVec.reduceToNat, he, hi, hq]
  | winRead n o => exact decode_encode_winRead t n o
  | winWrite n o v => exact decode_encode_winWrite t o hwf
  | crcInit s | crcSnoop s => cases s <;> rfl
  | crcFeed8 v | crcFeed16 v =>
    refine (decode_crcDataWrite t _ _).trans ?_
    simp [decodeCrcData]
  | crcFeed32 v => exact decode_crcDataWrite t .b4 v
  | crcLoad v | crcExpect v => exact decode_regWrite t (by decide) v
  | crcResult r => cases r <;> rfl
  | bpeSync => rfl
  | bpeSwrst | seqReset | seqReadJedecId | seqReadStatus | seqWriteEnable | seqEnableQuadIo | seqSectorErase
  | seqPageProgram | seqHighSpeedRead | seqWaitReady | seqSetDummyCycles | seqEnter4Byte | seqExit4Byte
  | seqClrDone => exact decode_regWrite t (by decide) _
  | devWren b | devRdsr b | devRdid b | devRdidQ b | devSe b | devPp b | devRead111 b | devRead112 b | devRead114 b
  | devRead122 b | devRead144 b | devRsten b | devRst b | devEqio b | devWrevcr b | devWrvcr b | devEn4b b
  | devEx4b b => exact decode_busRow ht (by simp [busRows])

/-- Settles O2: each word is the encoding of its instruction. -/
theorem decodeWords : Obligations.DecodeWords :=
  ⟨decode_encode_descInstr _ .memRead ⟨6#3, true, false, 0#2, false, 6#4⟩, decode_regWrite _ (by decide) _,
    decode_regWrite _ (by decide) _, decode_crcDataWrite _ .b2 _, decode_encode_winWrite _ (n := .b1) _ (by decide),
    rfl⟩

end Sys2Proof

namespace Sys2Proof.Machine

/-! ## The valid descriptors (R93, R101) -/

/-- The checks of R93 on the bits that a row fixes. -/
def fixedChecks : List DescCheck :=
  [.noOpcode, .continuousRead, .doubleDataRate, .dummyRange, .reserved, .kindNoData]

/-- A dummy count is in range exactly when the highest of its five bits is clear (R91). -/
theorem dummyInRange_eq (v : Word) : decide ((v.extractLsb' 16 5).toNat ≤ 15) = !v.getLsbD 20 := by
  have hfive : ∀ x : BitVec 5, decide (x.toNat ≤ 15) = !x.getLsbD 4 := by decide
  rw [hfive, BitVec.getLsbD_extractLsb']
  rfl

/-- The checks on fixed bits see only the bits that a row fixes. -/
theorem holds_and_descRowMask (v : Word) {c : DescCheck} (hc : c ∈ fixedChecks) :
    c.holds (v &&& descRowMask) = c.holds v := by
  have hbit (j : Nat) (h : descRowMask.getLsbD j = true) : (v &&& descRowMask).getLsbD j = v.getLsbD j := by
    rw [BitVec.getLsbD_and, h, Bool.and_true]
  have hfield (i w : Nat) (h : descRowMask.extractLsb' i w = BitVec.allOnes w) :
      (v &&& descRowMask).extractLsb' i w = v.extractLsb' i w := by
    rw [BitVec.extractLsb'_and, h, BitVec.and_allOnes]
  simp only [fixedChecks, List.mem_cons, List.not_mem_nil, or_false] at hc
  obtain rfl | rfl | rfl | rfl | rfl | rfl := hc <;>
    simp only [DescCheck.holds, dummyInRange_eq, hbit 3 rfl, hbit 4 rfl, hbit 7 rfl, hbit 11 rfl, hbit 14 rfl,
      hbit 15 rfl, hbit 20 rfl, hfield 12 2 rfl, hfield 21 11 rfl]

/-- The fixed bits of a value, one by one. -/
theorem and_descRowMask_eq (v : Word) : v &&& descRowMask =
    bitAt (v.getLsbD 3) 3 ||| bitAt (v.getLsbD 4) 4 ||| bitAt (v.getLsbD 7) 7 ||| bitAt (v.getLsbD 11) 11
      ||| (v.extractLsb' 12 2).setWidth 32 <<< 12 ||| bitAt (v.getLsbD 14) 14 ||| bitAt (v.getLsbD 15) 15
      ||| bitAt (v.getLsbD 20) 20 ||| (v.extractLsb' 21 11).setWidth 32 <<< 21 := by
  simp only [← and_bitAt_true, setWidth_extractLsb'_shiftLeft, ← BitVec.and_or_distrib_left]
  rfl

/-- DATAEN and TFRTYPE are those of a row unless TFRTYPE is set without data (R90). -/
theorem exists_rowBits_eq (dataEn : Bool) (tfrType : BitVec 2) (h : (dataEn || tfrType == 0#2) = true) :
    ∃ k : Kind, 0x10#32 ||| bitAt dataEn 7 ||| tfrType.setWidth 32 <<< 12 = Kind.rowBits k := by
  have hsome : (Kind.ofBits dataEn tfrType).isSome = true := by revert dataEn tfrType; decide
  obtain ⟨k, hk⟩ := Option.isSome_iff_exists.1 hsome
  refine ⟨k, ?_⟩
  clear h hsome
  revert dataEn tfrType
  cases k <;> decide

/-- A value passes the checks on fixed bits exactly when it has a row. -/
theorem fixedChecks_hold_iff (v : Word) :
    (∀ c ∈ fixedChecks, c.holds v = true) ↔ ∃ k : Kind, v &&& descRowMask = Kind.rowBits k := by
  constructor
  · intro h
    simp only [fixedChecks, List.forall_mem_cons, List.not_mem_nil, DescCheck.holds, dummyInRange_eq,
      Bool.and_eq_true, Bool.not_eq_true', beq_iff_eq] at h
    obtain ⟨h4, h14, h15, h20, ⟨⟨h3, h11⟩, hhigh⟩, hkind, -⟩ := h
    obtain ⟨k, hk⟩ := exists_rowBits_eq _ _ hkind
    refine ⟨k, ?_⟩
    rw [and_descRowMask_eq, h3, h4, h11, h14, h15, h20, hhigh, ← hk]
    simp [bitAt]
  · rintro ⟨k, hk⟩ c hc
    rw [← holds_and_descRowMask v hc, hk]
    revert c
    cases k <;> decide

theorem optionFits_iff {w : WidthCode} {optLen : BitVec 2} :
    optionFits w optLen = true ↔ 2 ^ optLen.toNat % w.addrLanes = 0 :=
  beq_iff_eq

/-- A value is valid exactly when it has a row, its WIDTH is not 7, and an option it enables fills whole cycles. -/
theorem descValid_iff (v : Word) : descValid v = true ↔
    (∃ k : Kind, v &&& descRowMask = Kind.rowBits k) ∧ (DescFields.ofWord v).width ≠ 7#3 ∧
      ((DescFields.ofWord v).optEn = true →
        2 ^ (DescFields.ofWord v).optLen.toNat % (widthOf (DescFields.ofWord v).width).addrLanes = 0) := by
  have hchecks : descValid v = true ↔ (∀ c ∈ fixedChecks, c.holds v = true) ∧
      DescCheck.badWidth.holds v = true ∧ DescCheck.optionLanes.holds v = true := by
    simp only [descValid, List.all_eq_true, descChecks, fixedChecks, List.forall_mem_cons]
    tauto
  have hwidth : DescCheck.badWidth.holds v = true ↔ v.extractLsb' 0 3 ≠ 7#3 := bne_iff_ne
  have hopt : DescCheck.optionLanes.holds v = true ↔ (v.getLsbD 6 = true →
      2 ^ (v.extractLsb' 8 2).toNat % (widthOf (v.extractLsb' 0 3)).addrLanes = 0) := by
    rw [DescCheck.holds, Bool.or_eq_true, optionFits_iff, Bool.not_eq_true', ← Bool.not_eq_true]
    exact Decidable.imp_iff_not_or.symm
  rw [hchecks, hwidth, hopt, fixedChecks_hold_iff]
  rfl

/-- Settles O3: a value with a row is that row's descriptor with the value's own fields. -/
theorem descriptorRows : Obligations.DescriptorRows := by
  intro v
  rw [descValid_iff]
  constructor
  · rintro ⟨⟨k, hk⟩, hwidth, hopt⟩
    exact ⟨k, DescFields.ofWord v, (toWord_ofWord hk).symm, hwidth, hopt⟩
  · rintro ⟨k, d, rfl, hwidth, hopt⟩
    rw [ofWord_toWord]
    exact ⟨⟨k, toWord_and_descRowMask k d⟩, hwidth, hopt⟩

end Sys2Proof.Machine

/-! The laws of the bus engine's rows and of the data window, and the statements of spec/40_bus_engine.md that follow
from them. -/

namespace Sys2Proof.Machine

/-! ## The write of INSTRFRAME (R113 to R119) -/

theorem writeInstrframe_busy (v : Word) {s : State} (hb : s.fcs.busy = true) :
    writeInstrframe v s = s.raiseFault .sequencerBusy := by
  simp [writeInstrframe, hb]

theorem writeInstrframe_inFrame (v : Word) {s : State} (hb : s.fcs.busy = false) (hf : s.bpe.fstate ≠ .idle) :
    writeInstrframe v s = s.raiseFault .frameBusy := by
  simp [writeInstrframe, hb, hf]

/-- A write that starts no frame: the engine does not run, or the descriptor is invalid. -/
theorem writeInstrframe_error {v : Word} {s : State} (hb : s.fcs.busy = false) (hf : s.bpe.fstate = .idle)
    (hv : (s.bpe.running && descValid v) = false) : writeInstrframe v s = (s.storeFrame v).flag flagError := by
  rw [writeInstrframe, hv]
  simp [hb, hf]

theorem writeInstrframe_launch {v : Word} {s : State} (hb : s.fcs.busy = false) (hf : s.bpe.fstate = .idle)
    (hr : s.bpe.running = true) (hv : descValid v = true) : writeInstrframe v s = (s.storeFrame v).launch v := by
  simp [writeInstrframe, hb, hf, hr, hv]

theorem running_eq (b : Bpe) : b.running = (b.enable && b.ctrlb.getLsbD 0) := rfl

theorem launch_cmd {v : Word} (hk : kindOf v = .cmd) (s : State) :
    s.launch v = s.startCmd (latchedFrame v s.bpe.instrctrl) := if_pos hk

theorem launch_data {v : Word} (hk : kindOf v ≠ .cmd) (s : State) :
    s.launch v = s.arm (latchedFrame v s.bpe.instrctrl) := if_neg hk

/-- The row of a kind's descriptor writes the descriptor to INSTRFRAME. -/
theorem exec_descInstr (k : Kind) (d : DescFields) (s : State) :
    exec (k.descInstr d) s = .next (writeInstrframe (d.toWord k) s) := by
  cases k <;> rfl

/-- Settles O13: a valid CMD descriptor is launched, and its kind is that of its row. -/
theorem cmdFrameStarts : Obligations.CmdFrameStarts := by
  intro d s hb hf hen hmode hv
  have hrun : s.bpe.running = true := by rw [running_eq, hen, hmode]; rfl
  refine (exec_descInstr .cmd d s).trans ?_
  rw [writeInstrframe_launch hb hf hrun hv, launch_cmd (kindOf_toWord .cmd d)]
  rfl

/-- Settles O14: a valid data descriptor is launched, and its kind is that of its row. -/
theorem dataFrameArms : Obligations.DataFrameArms := by
  intro i k d s hrow hb hf hen hmode hv
  have hrun : s.bpe.running = true := by rw [running_eq, hen, hmode]; rfl
  obtain ⟨rfl, hk⟩ : i = k.descInstr d ∧ k ≠ .cmd := by
    simp only [List.mem_cons, Prod.mk.injEq, List.not_mem_nil, or_false] at hrow
    obtain ⟨rfl, rfl⟩ | ⟨rfl, rfl⟩ | ⟨rfl, rfl⟩ | ⟨rfl, rfl⟩ := hrow <;> exact ⟨rfl, nofun⟩
  rw [exec_descInstr, writeInstrframe_launch hb hf hrun hv, launch_data (by rwa [kindOf_toWord])]
  rfl

/-- A value that has no row is not valid (R93). -/
theorem descValid_noRow {v : Word} (h : frameValueWf v = true) : descValid v = false := by
  refine Bool.eq_false_iff.2 fun hv => ?_
  obtain ⟨⟨k, hk⟩, -⟩ := (descValid_iff v).1 hv
  have hnone : descRow v = none := Option.isNone_iff_eq_none.1 h
  rw [descRow_eq_some_iff.2 hk] at hnone
  cases hnone

/-- Settles O15: a value without a row is not valid. -/
theorem otherDescriptorSetsError : Obligations.OtherDescriptorSetsError := by
  intro v s hwf hb hf
  have hv : (s.bpe.running && descValid v) = false := by rw [descValid_noRow hwf, Bool.and_false]
  exact congrArg Host.Outcome.next (writeInstrframe_error hb hf hv)

/-- Settles O16, from the refusing branches of the write of INSTRFRAME. -/
theorem frameWriteRefused : Obligations.FrameWriteRefused := by
  intro i v d s hrow
  have hexec : exec i s = .next (writeInstrframe v s) := by
    simp only [List.mem_cons, Prod.mk.injEq, List.not_mem_nil, or_false] at hrow
    obtain ⟨rfl, rfl⟩ | ⟨rfl, rfl⟩ | ⟨rfl, rfl⟩ | ⟨rfl, rfl⟩ | ⟨rfl, rfl⟩ | ⟨rfl, -⟩ := hrow <;> rfl
  rw [hexec]
  refine ⟨fun hb => ?_, fun hb hf => ?_, fun hb hf hinvalid => ?_⟩
  · rw [writeInstrframe_busy v hb]; rfl
  · rw [writeInstrframe_inFrame v hb hf]; rfl
  · have hv : (s.bpe.running && descValid v) = false := by
      rw [running_eq]
      obtain h | h | h := hinvalid <;> simp only [h, Bool.false_and, Bool.and_false]
    rw [writeInstrframe_error hb hf hv]
    rfl

/-- A 4-byte register is read and written at no other width (R67). -/
theorem decodeHost_reg_badWidth {off : Word} (h : isRegOffset off.toNat = true) {n : Nat} (hn : n ≠ 4)
    (dir : AccessDir) (v : Word) :
    decodeHost { dir := dir, size := n, space := .regs, off := off, value := v } = .refused .badWidth := by
  simp only [isRegOffset, Bool.and_eq_true, Bool.or_eq_true, decide_eq_true_eq] at h
  have h1 : ¬ 0x100 ≤ off.toNat := by omega
  have h2 : ¬ (0x0C4 ≤ off.toNat ∧ off.toNat ≤ 0x0C7) := by omega
  simp [decodeHost, decodeRegs, h1, h2, hn]

/-- Settles O17, from the meaning of the row and the place of INSTRFRAME. -/
theorem syncReads : Obligations.SyncReads :=
  ⟨fun _ => rfl, fun _ hn => decodeHost_reg_badWidth (by decide) hn .read _,
    fun v => decodeHost_reg (by decide) .read v⟩

/-! ## The data window (R126 to R130) -/

/-- A window access that passes every check of R293 belongs to the latched frame. -/
theorem windowCheck_eq_ok {s : State} {w : Bool} {o : Word} {n : Nat} {f : Frame} {isOpen : Bool}
    (halign : windowAligned s.cfg o n = true) (hb : s.fcs.busy = false) (hd : s.bpe.fdesc = some f)
    (hf : s.bpe.fstate = if isOpen then .opened else .armed) (hsync : s.bpe.syncPending = false)
    (hdir : directionOk f.kind w = true) (hoff : offsetAllowed s.bpe f isOpen o = true) :
    windowCheck s w o n = .ok (f, isOpen) := by
  have hframe : s.bpe.dataFrame = some (f, isOpen) := by
    cases isOpen <;> simp [Bpe.dataFrame, hf, hd]
  simp [windowCheck, halign, hb, hframe, hsync, hdir, hoff]

theorem windowAligned_iff {p : Params} {o : Word} {n : Nat} :
    windowAligned p o n = true ↔ o.toNat % n = 0 ∧ o.toNat + n ≤ p.winSize := by
  simp [windowAligned]

theorem exec_winRead_ok {s : State} {n : AccessSize} {o : Word} {f : Frame} {isOpen : Bool}
    (h : windowCheck s false o n.bytes = .ok (f, isOpen)) :
    exec (.winRead n o) s = .next (s.windowRead f isOpen o n.bytes) := by
  simp [exec, execWinRead, h]

theorem exec_winWrite_ok {s : State} {n : AccessSize} {o v : Word} {f : Frame} {isOpen : Bool}
    (h : windowCheck s true o n.bytes = .ok (f, isOpen)) :
    exec (.winWrite n o v) s = .next (s.windowWrite f isOpen o (leBytes n.bytes v)) := by
  simp [exec, execWinWrite, h]

/-- Snooping is an update of the CRC unit alone (R137, R244). -/
theorem snoopBytes_eq (k : Kind) (l : List Byte) (s : State) :
    s.snoopBytes k l = { s with crc := if k = .memRead ∧ s.crc.snoop = true then s.crc.feed l else s.crc } := by
  unfold State.snoopBytes
  split <;> rfl

/-- What a window read does once its frame is open (R126). -/
theorem windowRead_eq (f : Frame) (isOpen : Bool) (o : Word) (n : Nat) (s : State) :
    s.windowRead f isOpen o n =
      let u := s.openFrame f isOpen o
      { u.devSentN n with
        bpe := { u.bpe with fread := u.bpe.fread + n, fnext := o + BitVec.ofNat 32 n }
        crc := if f.kind = .memRead ∧ s.crc.snoop = true then s.crc.feed (u.devBytes n) else s.crc
        resp := .data (ofLeBytes (u.devBytes n)) } := by
  simp only [State.windowRead, snoopBytes_eq, State.countRead, State.answer, State.devSentN_bpe, State.devSentN_crc,
    State.openFrame_crc]

/-- A frame that is armed opens with the address of its kind (R117). -/
theorem openFrame_armed (f : Frame) (o : Word) (s : State) :
    s.openFrame f false o =
      State.devBegin { f with addr := openAddr s f o }
        { s with bpe := { s.bpe with faddr := openAddr s f o, fstate := .opened } } := rfl

theorem offsetAllowed_armed {b : Bpe} {f : Frame} {o : Word} (h : f.kind.isMem = true ∨ o = 0#32) :
    offsetAllowed b f false o = true := by
  simpa [offsetAllowed] using h

theorem offsetAllowed_open {b : Bpe} {f : Frame} {o : Word} (h : o = b.fnext) : offsetAllowed b f true o = true := by
  simpa [offsetAllowed] using h

/-- Settles O19: the checks pass, and the transfer is that of an armed or of an open frame. -/
theorem windowReadMovesBytes : Obligations.WindowReadMovesBytes := by
  intro n o f s read a hmod hend hb hsync hd hkind
  have halign := windowAligned_iff.2 ⟨hmod, hend⟩
  have hdir : directionOk f.kind false = true := by obtain h | h := hkind <;> rw [h] <;> rfl
  have haddr : openAddr s f o = a := by obtain h | h := hkind <;> simp [openAddr, a, h, Kind.isMem]
  constructor
  · intro hf ho
    have hoff : f.kind.isMem = true ∨ o = 0#32 := ho.imp_left fun h => by rw [h]; rfl
    have hcheck := windowCheck_eq_ok (isOpen := false) halign hb hd hf hsync hdir (offsetAllowed_armed hoff)
    rw [exec_winRead_ok hcheck, windowRead_eq, openFrame_armed, haddr]
    rfl
  · intro hf ho
    have hcheck := windowCheck_eq_ok (isOpen := true) halign hb hd hf hsync hdir (offsetAllowed_open ho)
    rw [exec_winRead_ok hcheck, windowRead_eq]
    rfl

/-- What a window write does once its frame is open (R128). -/
theorem windowWrite_eq (f : Frame) (isOpen : Bool) (o : Word) (l : List Byte) (s : State) :
    s.windowWrite f isOpen o l =
      let u := s.openFrame f isOpen o
      { u.devTake l with
        bpe := { u.bpe with fwdata := u.bpe.fwdata ++ l, fnext := o + BitVec.ofNat 32 l.length }
        resp := .accepted } := rfl

/-- Settles O20: the checks pass, and the transfer is that of an armed or of an open frame. -/
theorem windowWriteMovesBytes : Obligations.WindowWriteMovesBytes := by
  intro n o v f s write a hmod hend hb hsync hd hkind
  have halign := windowAligned_iff.2 ⟨hmod, hend⟩
  have hdir : directionOk f.kind true = true := by obtain h | h := hkind <;> rw [h] <;> rfl
  have haddr : openAddr s f o = a := by obtain h | h := hkind <;> simp [openAddr, a, h, Kind.isMem]
  constructor
  · intro hf ho
    have hoff : f.kind.isMem = true ∨ o = 0#32 := ho.imp_left fun h => by rw [h]; rfl
    have hcheck := windowCheck_eq_ok (isOpen := false) halign hb hd hf hsync hdir (offsetAllowed_armed hoff)
    rw [exec_winWrite_ok hcheck, windowWrite_eq, openFrame_armed, haddr, leBytes_length]
  · intro hf ho
    have hcheck := windowCheck_eq_ok (isOpen := true) halign hb hd hf hsync hdir (offsetAllowed_open ho)
    rw [exec_winWrite_ok hcheck, windowWrite_eq, leBytes_length]
    rfl

/-! ## A read in parts (R64, R68, R126) -/

/-- The bytes the device supplies depend on its state, the parameters and the draws alone. -/
theorem devBytes_congr (n : Nat) {s t : State} (hcfg : t.cfg = s.cfg) (hdev : t.dev = s.dev)
    (hdraws : t.draws = s.draws) : t.devBytes n = s.devBytes n := by
  induction n generalizing s t with
  | zero => rfl
  | succ n ih =>
    have hbyte : t.devByte = s.devByte := by simp only [State.devByte, hcfg, hdev, hdraws]
    have hsent : t.devSent.devBytes n = s.devSent.devBytes n :=
      ih (by simp [hcfg]) (by simp [hdev]) (by simp [hdraws])
    rw [State.devBytes, State.devBytes, hbyte, hsent]

/-- The bytes of a read are those of its first part and then those of its second. -/
theorem devBytes_add (m n : Nat) (s : State) : s.devBytes (m + n) = s.devBytes m ++ (s.devSentN m).devBytes n := by
  induction m generalizing s with
  | zero => simp [State.devBytes, State.devSentN]
  | succ m ih => rw [Nat.add_right_comm, State.devBytes, ih]; rfl

/-- Reading bytes is an update of the count of the device's frame and of the draws alone. -/
theorem devSentN_eq (n : Nat) (s : State) :
    s.devSentN n =
      { s with
        dev := { s.dev with cur := s.dev.cur.map fun c => { c with sent := c.sent + n } }
        draws := s.draws + n } := by
  have hdev := devSentN_dev n s
  have hdraws := devSentN_draws n s
  rw [← hdev, ← hdraws]
  clear hdev hdraws
  induction n generalizing s with
  | zero => rfl
  | succ n ih => exact ih s.devSent

/-- A window read opens its frame and then reads from the open frame. -/
theorem windowRead_openFrame (f : Frame) (isOpen : Bool) (o : Word) (n : Nat) (s : State) :
    s.windowRead f isOpen o n = (s.openFrame f isOpen o).windowRead f true o n := rfl

/-- The bytes of two reads are snooped as those of one (R137). -/
theorem feed_append (c : Crc) (l l' : List Byte) : (c.feed l).feed l' = c.feed (l ++ l') := by
  simp only [Crc.feed, crcFeed, List.foldl_append]

/-- A read that goes on where another of the same open frame ended leaves the state of one read of both, but for the
answer to the host. -/
theorem windowRead_windowRead (f : Frame) (o : Word) (m n : Nat) (r : Response) (s : State) :
    State.windowRead f true (o + BitVec.ofNat 32 m) n { s.windowRead f true o m with resp := r } =
      { s.windowRead f true o (m + n) with resp := .data (ofLeBytes ((s.devSentN m).devBytes n)) } := by
  have hbytes : State.devBytes { s.windowRead f true o m with resp := r } n = (s.devSentN m).devBytes n :=
    devBytes_congr n (by simp [State.windowRead]) (by simp [State.windowRead, State.openFrame])
      (by simp [State.windowRead, State.openFrame])
  rw [windowRead_eq f true _ n]
  simp only [State.openFrame, if_true, hbytes]
  simp only [windowRead_eq, State.openFrame, if_true, devBytes_add]
  generalize (s.devSentN m).devBytes n = l
  simp only [devSentN_eq, Option.map_map, Function.comp_def, Nat.add_assoc, BitVec.add_assoc, ← BitVec.ofNat_add]
  by_cases hsnoop : f.kind = .memRead ∧ s.crc.snoop = true
  · have hfed : f.kind = .memRead ∧ (s.crc.feed (s.devBytes m)).snoop = true := hsnoop
    simp only [if_pos hsnoop, if_pos hfed, feed_append]
  · simp only [if_neg hsnoop]

/-- Four bytes, lowest first, as a word (R64). -/
theorem ofLeBytes_four (b0 b1 b2 b3 : Byte) : ofLeBytes [b0, b1, b2, b3] = b3 ++ b2 ++ b1 ++ b0 := by
  have hword : (b3 ++ b2 ++ b1 ++ b0).setWidth 32 = b3 ++ b2 ++ b1 ++ b0 := BitVec.setWidth_eq (n := 32) _
  rw [← hword, setWidth_append_word, setWidth_append_word, setWidth_append_word]
  simp [ofLeBytes]

/-- A single byte as a word. -/
theorem ofLeBytes_one (b : Byte) : ofLeBytes [b] = b.setWidth 32 := by
  simp [ofLeBytes]

/-- Inside a word that a window read may read, each byte may be read once the bytes before it have been. -/
theorem windowCheck_nextByte {o : Word} {s : State} {f : Frame} {isOpen : Bool}
    (h : windowCheck s false o 4 = .ok (f, isOpen)) {m : Nat} (hm : m < 4) (r : Response) :
    windowCheck { (s.openFrame f isOpen o).windowRead f true o m with resp := r } false (o + BitVec.ofNat 32 m) 1 =
      .ok (f, true) := by
  obtain ⟨halign, hb, hd, hf, hsync, hdir, -⟩ := windowCheck_ok h
  obtain ⟨hmod, hend⟩ := windowAligned_iff.1 halign
  have ho : (o + BitVec.ofNat 32 m).toNat = o.toNat + m := by
    have := o.isLt
    rw [BitVec.toNat_add, BitVec.toNat_ofNat]
    omega
  refine windowCheck_eq_ok ?_ ?_ ?_ ?_ ?_ hdir (offsetAllowed_open ?_)
  · simp only [State.windowRead, State.answer_cfg, State.countRead_cfg, State.snoopBytes_cfg, State.devSentN_cfg,
      State.openFrame_cfg]
    exact windowAligned_iff.2 ⟨Nat.mod_one _, by omega⟩
  · simpa [State.windowRead] using hb
  · cases isOpen <;> simpa [State.windowRead, State.openFrame] using hd
  · cases isOpen <;> simp [State.windowRead, State.openFrame, hf]
  · cases isOpen <;> simpa [State.windowRead, State.openFrame] using hsync
  · simp [State.windowRead]

/-- Inside a word that a window read may read, the read of the next byte answers it, and leaves the state of one read
of all bytes so far, but for the answer. -/
theorem exec_winRead_nextByte {o : Word} {s : State} {f : Frame} {isOpen : Bool}
    (h : windowCheck s false o 4 = .ok (f, isOpen)) {m : Nat} (hm : m < 4) (r : Response) :
    exec (.winRead .b1 (o + BitVec.ofNat 32 m)) { (s.openFrame f isOpen o).windowRead f true o m with resp := r } =
      .next { (s.openFrame f isOpen o).windowRead f true o (m + 1) with
        resp := .data (((s.openFrame f isOpen o).devSentN m).devByte.setWidth 32) } := by
  rw [exec_winRead_ok (n := .b1) (windowCheck_nextByte h hm r), ← ofLeBytes_one]
  exact congrArg Host.Outcome.next (windowRead_windowRead f o m 1 r _)

/-- Settles O22: the first byte opens the frame where the word does, and each next byte is read from the open frame. -/
theorem wordReadIsByteReads : Obligations.WordReadIsByteReads := by
  intro o s ⟨f, isOpen⟩ h
  obtain ⟨halign, hb, hd, hf, hsync, hdir, hoff⟩ := windowCheck_ok h
  obtain ⟨hmod, hend⟩ := windowAligned_iff.1 halign
  have hfirst : windowCheck s false o 1 = .ok (f, isOpen) :=
    windowCheck_eq_ok (windowAligned_iff.2 ⟨Nat.mod_one _, by omega⟩) hb hd hf hsync hdir hoff
  have hword : exec (.winRead .b4 o) s = .next ((s.openFrame f isOpen o).windowRead f true o 4) :=
    (exec_winRead_ok h).trans (congrArg Host.Outcome.next (windowRead_openFrame f isOpen o 4 s))
  have hbyte : exec (.winRead .b1 o) s = .next ((s.openFrame f isOpen o).windowRead f true o 1) :=
    (exec_winRead_ok hfirst).trans (congrArg Host.Outcome.next (windowRead_openFrame f isOpen o 1 s))
  exact ⟨_, _, _, _, _, _, _, _, _, hword, hbyte, exec_winRead_nextByte h (m := 1) (by decide) _,
    exec_winRead_nextByte h (m := 2) (by decide) _, exec_winRead_nextByte h (m := 3) (by decide) _,
    congrArg Response.data (ofLeBytes_one _), rfl, rfl, rfl, congrArg Response.data (ofLeBytes_four _ _ _ _), rfl⟩

/-! ## CTRLA (R24, R131, R132, R135) -/

theorem exec_bpeEnable_disable {en : Bool} {s : State} (hen : en = false) (hf : s.bpe.fstate ≠ .idle) :
    exec (.bpeEnable en) s = .next (s.raiseFault .disableInFrame) := by
  simp [exec, execBpeEnable, Bpe.disablesInFrame, hen, hf]

/-- A write of CTRLA that does not clear ENABLE in a frame is not refused for it. -/
theorem disablesInFrame_false {b : Bpe} {en : Bool} (h : en = true ∨ b.fstate = .idle) :
    b.disablesInFrame en = false := by
  obtain h | h := h <;> simp [Bpe.disablesInFrame, h]

/-- Settles O24, from the two branches of the row. -/
theorem enableWrites : Obligations.EnableWrites := by
  refine fun en s => ⟨fun h => ?_, exec_bpeEnable_disable⟩
  simp only [exec, execBpeEnable, disablesInFrame_false h]
  rfl

theorem exec_bpeLastXfer_busy (en : Bool) {s : State} (hb : s.fcs.busy = true) :
    exec (.bpeLastXfer en) s = .next (s.raiseFault .sequencerBusy) := by
  simp [exec, execBpeLastXfer, hb]

theorem exec_bpeLastXfer_disable {en : Bool} {s : State} (hb : s.fcs.busy = false) (hen : en = false)
    (hf : s.bpe.fstate ≠ .idle) : exec (.bpeLastXfer en) s = .next (s.raiseFault .disableInFrame) := by
  simp [exec, execBpeLastXfer, Bpe.disablesInFrame, hb, hen, hf]

theorem exec_bpeLastXfer_taken {en : Bool} {s : State} (hb : s.fcs.busy = false)
    (h : en = true ∨ s.bpe.fstate = .idle) : exec (.bpeLastXfer en) s = .next (s.writeEnable en).lastXfer := by
  simp [exec, execBpeLastXfer, disablesInFrame_false h, hb]

/-- Settles O23, from the refusals of the row and what LASTXFER does in each state of the frame machine. -/
theorem lastXferEndsFrame : Obligations.LastXferEndsFrame := by
  refine fun en s => ⟨exec_bpeLastXfer_busy en, exec_bpeLastXfer_disable, fun hb h => ⟨fun hf => ?_, fun hf => ?_, ?_⟩⟩
  · rw [exec_bpeLastXfer_taken hb h]
    obtain hf | hf := hf <;> simp [State.lastXfer, State.writeEnable, hf]
  · rw [exec_bpeLastXfer_taken hb h]
    simp [State.lastXfer, State.writeEnable, hf]
  · intro f hf hd
    rw [exec_bpeLastXfer_taken hb h]
    simp [State.lastXfer, State.writeEnable, State.devBegin, frameAt, hf, hd]

/-! ## The completion step (R133) -/

/-- Settles O26, from the branches of the BPE's step. -/
theorem frameCompletes : Obligations.FrameCompletes := by
  intro s
  constructor
  · intro hf hs
    rw [bpeStep, if_pos ⟨hf, hs⟩]
    split
    · rw [State.drawStall_bpe]
    · simp only [State.completeFrame, State.flag, Bpe.setFlag, flagInstrEnd, State.devEnd_bpe, State.drawStall_bpe]
  · intro h
    refine if_neg fun ⟨hf, hs⟩ => ?_
    simp [hf, hs] at h

/-! ## Frames from outside (R124) -/

theorem busDeliver_turnedAway (f : BusFrame) {s : State} (h : s.bpe.csact = true) :
    busDeliver f s = { s with resp := .turnedAway } := if_pos h

/-- Settles O58: each of the rows puts one frame on the bus. -/
theorem chipSelectHeld : Obligations.ChipSelectHeld := by
  intro b i s h hi
  have hframe : ∃ f, exec i s = .next (busDeliver f s) := by
    revert i
    simp only [List.forall_mem_cons, List.not_mem_nil, false_implies, implies_true, and_true]
    exact ⟨⟨_, rfl⟩, ⟨_, rfl⟩, ⟨_, rfl⟩, ⟨_, rfl⟩, ⟨_, rfl⟩, ⟨_, rfl⟩, ⟨_, rfl⟩, ⟨_, rfl⟩, ⟨_, rfl⟩, ⟨_, rfl⟩,
      ⟨_, rfl⟩, ⟨_, rfl⟩, ⟨_, rfl⟩, ⟨_, rfl⟩, ⟨_, rfl⟩, ⟨_, rfl⟩, ⟨_, rfl⟩, ⟨_, rfl⟩⟩
  obtain ⟨f, hf⟩ := hframe
  rw [hf, busDeliver_turnedAway f h]

end Sys2Proof.Machine

/-! The invariant of sound states, part by part, and the statement that every step keeps it. -/

namespace Sys2Proof.Machine

/-! ## The parts of the invariant -/

/-- The BPE's part of `State.Inv`. -/
structure Bpe.Sound (b : Bpe) : Prop where
  inten : b.inten &&& ~~~intMask = 0#32
  intflag : b.intflag &&& ~~~intMask = 0#32
  instrctrl : b.instrctrl &&& ~~~instrctrlMask = 0#32
  latched : b.frameLatched = true
  stalled : b.stalled = true → b.fstate = .running

/-- The part of `State.Inv` of the FCS on a variant. -/
structure Fcs.Sound (v : Variant) (c : Fcs) : Prop where
  seqparam : c.seqparam &&& ~~~seqparamMask = 0#32
  seqbudget : c.seqbudget &&& ~~~seqbudgetMask = 0#32
  seqid : c.seqid &&& 0xFF000000#32 = 0#32
  running : c.busy = true → c.commandLegal v = true
  resting : c.busy = false → c.step = .idle
  ended : c.busy = true → c.doneFlag = false
  failed : c.failstep = .idle ↔ c.err = .none
  addr4 : v = .B → c.addr4 = false

/-- The device's part of `State.Inv`. -/
structure Dev.Sound (p : Params) (d : Dev) : Prop where
  arr : Memory.wf p.capacity d.arr
  addr4 : p.devVariant = .B → d.addr4 = false
  plan : d.planLegal p.devVariant = true

namespace State.Inv

theorem bpeSound {s : State} (h : s.Inv) : s.bpe.Sound :=
  ⟨h.inten, h.intflag, h.instrctrl, h.latched, h.stalled⟩

theorem fcsSound {s : State} (h : s.Inv) : s.fcs.Sound s.cfg.variant :=
  ⟨h.seqparam, h.seqbudget, h.seqid, h.running, h.resting, h.ended, h.failed, h.addr4⟩

theorem devSound {s : State} (h : s.Inv) : s.dev.Sound s.cfg :=
  ⟨h.arr, h.devAddr4, h.devPlan⟩

/-- The invariant is its three parts, what ties them together, and the fault record's being a set. -/
theorem ofParts {s : State} (hb : s.bpe.Sound) (hf : s.fcs.Sound s.cfg.variant) (hd : s.dev.Sound s.cfg)
    (hselected : s.dev.cur.isSome = s.bpe.csact) (hexclusive : s.fcs.busy = true → s.bpe.fstate = .idle)
    (hfaults : s.faults.Nodup) : s.Inv where
  arr := hd.arr
  inten := hb.inten
  intflag := hb.intflag
  instrctrl := hb.instrctrl
  seqparam := hf.seqparam
  seqbudget := hf.seqbudget
  seqid := hf.seqid
  latched := hb.latched
  selected := hselected
  stalled := hb.stalled
  exclusive := hexclusive
  running := hf.running
  resting := hf.resting
  ended := hf.ended
  failed := hf.failed
  addr4 := hf.addr4
  devAddr4 := hd.addr4
  devPlan := hd.plan
  faults := hfaults

/-- The invariant reads only the parameters, the BPE, the FCS, the device and the fault record. -/
theorem of_unchanged {s t : State} (h : s.Inv) (hcfg : t.cfg = s.cfg) (hbpe : t.bpe = s.bpe) (hfcs : t.fcs = s.fcs)
    (hdev : t.dev = s.dev) (hfaults : t.faults.Nodup) : t.Inv := by
  refine ofParts ?_ ?_ ?_ ?_ ?_ hfaults
  · rw [hbpe]; exact h.bpeSound
  · rw [hfcs, hcfg]; exact h.fcsSound
  · rw [hdev, hcfg]; exact h.devSound
  · rw [hdev, hbpe]; exact h.selected
  · rw [hfcs, hbpe]; exact h.exclusive

/-- A change of the BPE that leaves the frame machine where it is. -/
theorem withBpe {s t : State} (h : s.Inv) (hb : t.bpe.Sound) (hstate : t.bpe.fstate = s.bpe.fstate)
    (hrest : (t.cfg, t.fcs, t.dev, t.faults) = (s.cfg, s.fcs, s.dev, s.faults)) : t.Inv := by
  simp only [Prod.mk.injEq] at hrest
  obtain ⟨hcfg, hfcs, hdev, hfaults⟩ := hrest
  refine ofParts hb ?_ ?_ ?_ ?_ ?_
  · rw [hfcs, hcfg]; exact h.fcsSound
  · rw [hdev, hcfg]; exact h.devSound
  · rw [hdev, Bpe.csact, hstate]; exact h.selected
  · rw [hfcs, hstate]; exact h.exclusive
  · rw [hfaults]; exact h.faults

/-- A change of the FCS in which no command starts during a frame of the host. -/
theorem withFcs {s t : State} (h : s.Inv) (hf : t.fcs.Sound t.cfg.variant)
    (hbusy : t.fcs.busy = true → s.bpe.fstate = .idle)
    (hrest : (t.cfg, t.bpe, t.dev, t.faults) = (s.cfg, s.bpe, s.dev, s.faults)) : t.Inv := by
  simp only [Prod.mk.injEq] at hrest
  obtain ⟨hcfg, hbpe, hdev, hfaults⟩ := hrest
  refine ofParts ?_ hf ?_ ?_ ?_ ?_
  · rw [hbpe]; exact h.bpeSound
  · rw [hdev, hcfg]; exact h.devSound
  · rw [hdev, hbpe]; exact h.selected
  · rw [hbpe]; exact hbusy
  · rw [hfaults]; exact h.faults

/-- A change of the device that leaves the frame on the bus to it. -/
theorem withDev {s t : State} (h : s.Inv) (hd : t.dev.Sound t.cfg)
    (hcur : t.dev.cur.isSome = s.dev.cur.isSome)
    (hrest : (t.cfg, t.bpe, t.fcs, t.faults) = (s.cfg, s.bpe, s.fcs, s.faults)) : t.Inv := by
  simp only [Prod.mk.injEq] at hrest
  obtain ⟨hcfg, hbpe, hfcs, hfaults⟩ := hrest
  refine ofParts ?_ ?_ hd ?_ ?_ ?_
  · rw [hbpe]; exact h.bpeSound
  · rw [hfcs, hcfg]; exact h.fcsSound
  · rw [hcur, hbpe]; exact h.selected
  · rw [hfcs, hbpe]; exact h.exclusive
  · rw [hfaults]; exact h.faults

theorem accept {s : State} (h : s.Inv) : s.accept.Inv := h.of_unchanged rfl rfl rfl rfl h.faults

theorem answer {s : State} (h : s.Inv) (v : Word) : (s.answer v).Inv := h.of_unchanged rfl rfl rfl rfl h.faults

theorem raiseFault {s : State} (h : s.Inv) (r : FaultReason) : (s.raiseFault r).Inv :=
  h.of_unchanged rfl rfl rfl rfl (insertReason_nodup h.faults)

theorem drawStall {s : State} (h : s.Inv) : s.drawStall.2.Inv :=
  h.of_unchanged (by simp) (by simp) (by simp) (by simp) (by simpa using h.faults)

theorem advance {s : State} (h : s.Inv) : s.advance.Inv :=
  h.of_unchanged (by simp) (by simp) (by simp) (by simp) (by simpa using h.faults)

theorem snoopBytes {s : State} (h : s.Inv) (k : Kind) (l : List Byte) : (s.snoopBytes k l).Inv :=
  h.of_unchanged (by simp) (by simp) (by simp) (by simp) (by simpa using h.faults)

/-- While no frame of the host is in progress the device holds none. -/
theorem cur_eq_none {s : State} (h : s.Inv) (hcs : s.bpe.csact = false) : s.dev.cur = none := by
  simpa [hcs] using h.selected

theorem csact_of_busy {s : State} (h : s.Inv) (hb : s.fcs.busy = true) : s.bpe.csact = false := by
  simp [Bpe.csact, h.exclusive hb]

/-- A running command is at one of its steps. -/
theorem legal {s : State} {c : Cmd} {st : SeqStep} (h : s.Inv) (ha : s.atStep c st) :
    legalStep s.cfg.variant c st = true := by
  obtain ⟨hb, hc, rfl⟩ := ha
  simpa [Fcs.commandLegal, hc] using h.running hb

end State.Inv

/-! ## The device (R201 to R231) -/

namespace Dev.Sound

/-- A change of the device's flags, or of its internal operation. -/
theorem of_same {p : Params} {d e : Dev} (h : d.Sound p) (harr : e.arr = d.arr) (haddr : e.addr4 = d.addr4)
    (hcur : e.cur = d.cur) : e.Sound p := by
  refine ⟨?_, ?_, ?_⟩
  · rw [harr]; exact h.arr
  · rw [haddr]; exact h.addr4
  · rw [Dev.planLegal, hcur]; exact h.plan

theorem arbitrary {p : Params} {d : Dev} (h : d.Sound p) (n : Nat) : (d.arbitrary p n).Sound p :=
  ⟨arbitrary_arr_wf p n d, fun hB => by simp [Dev.arbitrary, hB, variantBit], h.plan⟩

/-- A device that holds no frame, with another reset-enable record. -/
theorem atEnd {p : Params} {d : Dev} (h : d.Sound p) (b : Bool) :
    Dev.Sound p { d with rsten := b, cur := none } :=
  ⟨h.arr, h.addr4, rfl⟩

/-- The count of the frame on the bus, or its bytes, may change: its plan stays. -/
theorem mapCur {p : Params} {d : Dev} (h : d.Sound p) {g : InFlight → InFlight} (hg : ∀ c, (g c).plan = c.plan) :
    Dev.Sound p { d with cur := d.cur.map g } := by
  refine ⟨h.arr, h.addr4, ?_⟩
  have hplan := h.plan
  cases hc : d.cur <;> simp_all [Dev.planLegal]

end Dev.Sound

/-- A device of variant B does not decode OP_EN4B (R213). -/
theorem devLookup_ne_en4b {p : Params} (hB : p.devVariant = .B) (quad : Bool) (op : Byte) :
    devLookup p quad op ≠ some .en4b := by
  have hcommon : lookupCommon p.devOps op ≠ some .en4b := by unfold lookupCommon; split_ifs <;> simp
  have hmode : lookupMode p.devOps quad op ≠ some .en4b := by unfold lookupMode; split_ifs <;> simp
  have hvariant : lookupVariant p.devOps p.devVariant quad op ≠ some .en4b := by
    rw [hB, lookupVariant]; split_ifs <;> simp
  unfold devLookup
  cases hc : lookupCommon p.devOps op with
  | some o => simpa [hc] using hcommon
  | none =>
    cases hm : lookupMode p.devOps quad op with
    | some o => simpa [hm] using hmode
    | none => simpa using hvariant

theorem readPlan_ne_en4b (p : Params) (d : Dev) (w : WidthCode) (f : Frame) : readPlan p d w f ≠ .en4b := by
  unfold readPlan
  split_ifs <;> simp

/-- Only the row OP_EN4B has the plan of OP_EN4B. -/
theorem opPlan_ne_en4b {p : Params} {d : Dev} {f : Frame} {o : DevOp} (ho : o ≠ .en4b) : opPlan p d f o ≠ .en4b := by
  cases o with
  | en4b => exact absurd rfl ho
  | read w => exact readPlan_ne_en4b p d w f
  | _ => simp only [opPlan]; split_ifs <;> simp

/-- A device of variant B plans no OP_EN4B (R212, R213). -/
theorem devPlan_ne_en4b {p : Params} (hB : p.devVariant = .B) (d : Dev) (f : Frame) : devPlan p d f ≠ .en4b := by
  unfold devPlan
  split
  · simp
  · split
    · simp
    · split
      · simp
      · rename_i o ho
        exact opPlan_ne_en4b fun h => devLookup_ne_en4b hB _ _ (h ▸ ho)

/-- The device of a machine is sound with the machine's parameters. -/
abbrev State.DevSound (s : State) : Prop := s.dev.Sound s.cfg

theorem devBegin_sound {s : State} (h : s.DevSound) (f : Frame) : (s.devBegin f).DevSound := by
  refine ⟨h.arr, h.addr4, ?_⟩
  cases hv : s.cfg.devVariant with
  | A => simp [Dev.planLegal, hv, variantBit]
  | B => simpa [Dev.planLegal, hv, variantBit] using devPlan_ne_en4b hv s.dev f

theorem devSentN_sound {s : State} (h : s.DevSound) (n : Nat) : (s.devSentN n).DevSound := by
  rw [State.DevSound, devSentN_dev, State.devSentN_cfg]
  exact h.mapCur fun _ => rfl

theorem devTake_sound {s : State} (h : s.DevSound) (l : List Byte) : (s.devTake l).DevSound :=
  h.mapCur fun _ => rfl

theorem devReset_sound {s : State} (h : s.DevSound) : s.devReset.DevSound :=
  ⟨abandonedArr_wf h.arr, fun _ => rfl, h.plan⟩

theorem devWrevcr_sound {s : State} (h : s.DevSound) (e : Byte) : (s.devWrevcr e).DevSound := by
  unfold State.devWrevcr
  split
  · exact h
  · split
    · exact h.arbitrary _
    · exact h.of_same rfl rfl rfl

theorem devWrvcr_sound {s : State} (h : s.DevSound) (e : Byte) : (s.devWrvcr e).DevSound := by
  unfold State.devWrvcr
  split
  · exact h
  · split
    · exact h.arbitrary _
    · exact h.of_same rfl rfl rfl

theorem startErase_sound {p : Params} {d : Dev} (h : d.Sound p) (a : Nat) : (startErase p a d).Sound p := by
  unfold startErase
  split
  · exact h.of_same rfl rfl rfl
  · exact h

theorem startProgram_sound {p : Params} {d : Dev} (h : d.Sound p) (a : Nat) (l : List Byte) :
    (startProgram p a l d).Sound p := by
  unfold startProgram
  split
  · exact h.of_same rfl rfl rfl
  · exact h

/-- OP_EX4B leaves any device sound, OP_EN4B one of variant A (R227). -/
theorem devAddrMode_sound {p : Params} {d : Dev} (h : d.Sound p) {on : Bool} (hon : p.devVariant = .B → on = false) :
    (devAddrMode on d).Sound p := by
  unfold devAddrMode
  split
  · exact ⟨h.arr, hon, h.plan⟩
  · exact h

/-- The effect of a frame at its end leaves the device sound. -/
theorem devEffect_sound {s : State} {c : InFlight} (h : s.DevSound) (hc : s.dev.cur = some c) :
    (s.devEffect c).DevSound := by
  have hhavoc : s.havoc.DevSound := h.arbitrary _
  cases hp : c.plan <;> simp only [State.devEffect, hp]
  case ignored | badRead | status | identity | array => exact h
  case havocAtEnd => exact hhavoc
  case misread single => split <;> assumption
  case rsten => split <;> assumption
  case wren =>
    split
    · exact h.of_same rfl rfl rfl
    · exact hhavoc
  case eqio =>
    split
    · exact h.of_same rfl rfl rfl
    · exact hhavoc
  case erase a =>
    split
    · exact startErase_sound h a
    · exact hhavoc
  case program a => exact startProgram_sound h a c.recv
  case rst =>
    split
    · split
      · exact devReset_sound h
      · exact h
    · exact hhavoc
  case wrevcr =>
    split
    · exact devWrevcr_sound h _
    · exact hhavoc
  case wrvcr =>
    split
    · exact devWrvcr_sound h _
    · exact hhavoc
  case en4b =>
    have hA : s.cfg.devVariant ≠ .B := fun hB => by simpa [Dev.planLegal, hc, hB, variantBit, hp] using h.plan
    split
    · exact devAddrMode_sound h fun hB => absurd hB hA
    · exact hhavoc
  case ex4b =>
    split
    · exact devAddrMode_sound h fun _ => rfl
    · exact hhavoc

theorem devEnd_sound {s : State} (h : s.DevSound) : s.devEnd.DevSound := by
  cases hc : s.dev.cur with
  | none => simpa [State.devEnd, hc] using h
  | some c =>
    rw [devEnd_dev hc]
    exact (devEffect_sound h hc).atEnd _

@[simp] theorem devEnd_cur (s : State) : s.devEnd.dev.cur = none := by
  cases hc : s.dev.cur with
  | none => simp [State.devEnd, hc]
  | some c => rw [devEnd_dev hc]

theorem devData_sound {s : State} (h : s.DevSound) (f : BusFrame) : (s.devData f).DevSound := by
  unfold State.devData
  split
  · exact devSentN_sound (devBegin_sound h f.frame) _
  · split
    · exact devTake_sound (devBegin_sound h f.frame) _
    · exact devBegin_sound h f.frame

/-- A whole frame leaves the device sound. -/
theorem perform_sound {s : State} (h : s.DevSound) (f : BusFrame) : (s.perform f).DevSound :=
  devEnd_sound (devData_sound h f)

theorem perform_cur (f : BusFrame) (s : State) : (s.perform f).dev.cur = none := devEnd_cur _

theorem devComplete_sound {s : State} (h : s.DevSound) (op : Pending) (silent : Bool) :
    (s.devComplete op silent).DevSound := by
  refine ⟨?_, h.addr4, h.plan⟩
  cases silent with
  | true => exact flashScatter_wf _ _ h.arr
  | false => exact completedArr_wf h.arr

namespace State.Inv

theorem havoc {s : State} (h : s.Inv) : s.havoc.Inv := h.withDev (h.devSound.arbitrary _) rfl rfl

/-- A whole frame while the host's engine holds none. -/
theorem perform {s : State} (h : s.Inv) (hcs : s.bpe.csact = false) (f : BusFrame) : (s.perform f).Inv := by
  refine h.withDev (perform_sound h.devSound f) ?_ (by simp)
  rw [perform_cur, h.cur_eq_none hcs]

/-- A frame from outside is performed or turned away. -/
theorem busDeliver {s : State} (h : s.Inv) (f : BusFrame) : (busDeliver f s).Inv := by
  unfold Machine.busDeliver
  split
  · exact h.of_unchanged rfl rfl rfl rfl h.faults
  · rename_i hcs
    have ht := h.perform (by simpa using hcs) f
    exact ht.of_unchanged rfl rfl rfl rfl ht.faults

/-- The device agent's step (R219). -/
theorem devStep {s : State} (h : s.Inv) : (devStep s).Inv := by
  have hfinish : s.drawFinish.2.Inv :=
    h.of_unchanged (by simp) (by simp) (by simp) (by simp) (by simpa using h.faults)
  have hsilent : s.drawFinish.2.drawSilent.2.Inv :=
    hfinish.of_unchanged (by simp) (by simp) (by simp) (by simp) (by simpa using h.faults)
  unfold Machine.devStep
  split
  · exact h
  · split
    · exact hsilent.withDev (devComplete_sound hsilent.devSound _ _) rfl rfl
    · exact hfinish

end State.Inv

/-! ## The FCS (R150 to R194) -/

namespace Fcs.Sound

/-- What no clause of the invariant speaks of may change. -/
theorem withFree {v : Variant} {c : Fcs} (h : c.Sound v) {seqaddr polls : Word} {seqlen : BitVec 9} {quadact : Bool}
    {seqsr : Byte} {rbytes : List Byte} :
    Fcs.Sound v { c with seqaddr := seqaddr, seqlen := seqlen, quadact := quadact, seqsr := seqsr, polls := polls,
                         rbytes := rbytes } :=
  ⟨h.seqparam, h.seqbudget, h.seqid, h.running, h.resting, h.ended, h.failed, h.addr4⟩

theorem withSeqid {v : Variant} {c : Fcs} (h : c.Sound v) {w : Word} (hw : w &&& 0xFF000000#32 = 0#32) :
    Fcs.Sound v { c with seqid := w } :=
  ⟨h.seqparam, h.seqbudget, hw, h.running, h.resting, h.ended, h.failed, h.addr4⟩

theorem withAddr4 {v : Variant} {c : Fcs} (h : c.Sound v) {on : Bool} (hon : v = .B → on = false) :
    Fcs.Sound v { c with addr4 := on } :=
  ⟨h.seqparam, h.seqbudget, h.seqid, h.running, h.resting, h.ended, h.failed, hon⟩

/-- A command starts in CHECK on a variant that has it (R150). -/
theorem start {v : Variant} {c : Fcs} (h : c.Sound v) {k : Cmd} (hk : legalStep v k .check = true) :
    (c.start k).Sound v :=
  ⟨h.seqparam, h.seqbudget, h.seqid, fun _ => hk, nofun, fun _ => rfl, iff_of_true rfl rfl, h.addr4⟩

/-- A running command moves to another of its steps. -/
theorem move {v : Variant} {c : Fcs} (h : c.Sound v) {k : Cmd} {st : SeqStep} (hb : c.busy = true)
    (hc : c.cmd = some k) (hl : legalStep v k st = true) (n t : Word) :
    Fcs.Sound v { c with step := st, polls := n, t0 := t } := by
  refine ⟨h.seqparam, h.seqbudget, h.seqid, fun _ => ?_, fun hidle => ?_, h.ended, h.failed, h.addr4⟩
  · simpa [Fcs.commandLegal, hc] using hl
  · simp [hb] at hidle

end Fcs.Sound

/-- No command has the step IDLE. -/
theorem legalStep_idle (v : Variant) (c : Cmd) : legalStep v c .idle = false := by
  cases c <;> simp [legalStep]

/-- The commands that only variant A has go through CHECK, WREN, POLL_WEL and MAIN there (R187, R189, R190). -/
theorem legalStep_onlyA {v : Variant} {c : Cmd} (hc : c.onlyA = true) {st : SeqStep} :
    legalStep v c st = true ↔ v = .A ∧ (st = .check ∨ st = .wren ∨ st = .pollWel ∨ st = .main) := by
  cases c with
  | setDummyCycles | enter4Byte | exit4Byte => cases v <;> cases st <;> decide
  | _ => cases hc

theorem legalStep_wren_of_onlyA {v : Variant} {c : Cmd} (hc : c.onlyA = true) (h : legalStep v c .check = true) :
    legalStep v c .wren = true :=
  (legalStep_onlyA hc).2 ⟨((legalStep_onlyA hc).1 h).1, .inr (.inl rfl)⟩

/-- Every command that a variant has starts in CHECK. -/
theorem legalStep_check {v : Variant} {c : Cmd} (h : (c.onlyA && variantBit v) = false) :
    legalStep v c .check = true := by
  cases c with
  | setDummyCycles | enter4Byte | exit4Byte =>
    cases v with
    | A => rfl
    | B => cases h
  | _ => rfl

theorem legalStep_pollWel_of_wren {v : Variant} {c : Cmd} (h : legalStep v c .wren = true) :
    legalStep v c .pollWel = true := by
  cases c <;> exact h

theorem legalStep_main_of_pollWel {v : Variant} {c : Cmd} (hc : c ≠ .writeEnable)
    (h : legalStep v c .pollWel = true) : legalStep v c .main = true := by
  cases c with
  | writeEnable => exact absurd rfl hc
  | reset | readJedecId | readStatus | highSpeedRead | waitReady => cases h
  | enableQuadIo => rfl
  | sectorErase | pageProgram | setDummyCycles | enter4Byte | exit4Byte => exact h

/-- The end of a running command (R151): FAILSTEP is its step, which is not IDLE, where there is an error. -/
theorem Fcs.Sound.finish {v : Variant} {c : Fcs} (h : c.Sound v) (hb : c.busy = true) (e : ErrCode) :
    Fcs.Sound v { c with err := e, failstep := failstepOf e c.step, step := .idle, busy := false,
                         doneFlag := true } := by
  have hstep : c.step ≠ .idle := by
    intro hidle
    have hl := h.running hb
    unfold Fcs.commandLegal at hl
    split at hl
    · cases hl
    · rw [hidle, legalStep_idle] at hl
      cases hl
  refine ⟨h.seqparam, h.seqbudget, h.seqid, nofun, fun _ => rfl, nofun, ?_, h.addr4⟩
  by_cases he : e = .none <;> simp [failstepOf, he, hstep]

/-- The eight high bits of SEQID are 0 (R41). -/
theorem idWord_reserved (i : JedecId) : idWord i &&& 0xFF000000#32 = 0#32 := by
  have hlow : ∀ j < 24, (0xFF000000#32).getLsbD j = false := by decide
  apply BitVec.eq_of_getLsbD_eq
  intro j hj
  rw [BitVec.getLsbD_and]
  by_cases h : j < 24
  · simp [hlow j h]
  · have hmfr : i.mfr.getLsbD j = false := BitVec.getLsbD_of_ge _ _ (by omega)
    have htyp : i.typ.getLsbD (j - 8) = false := BitVec.getLsbD_of_ge _ _ (by omega)
    have hcap : i.capid.getLsbD (j - 16) = false := BitVec.getLsbD_of_ge _ _ (by omega)
    simp [idWord, hmfr, htyp, hcap]

/-! ## The BPE -/

namespace Bpe.Sound

theorem setFlag {b : Bpe} (h : b.Sound) {v : Word} (hv : v &&& ~~~intMask = 0#32) : (b.setFlag v).Sound :=
  ⟨h.inten, by simp [BitVec.and_or_distrib_right, h.intflag, hv], h.instrctrl, h.latched, h.stalled⟩

end Bpe.Sound

namespace State.Inv

theorem flag {s : State} (h : s.Inv) {v : Word} (hv : v &&& ~~~intMask = 0#32) : (s.flag v).Inv :=
  h.withBpe (h.bpeSound.setFlag hv) rfl rfl

theorem finish {s : State} (h : s.Inv) (hb : s.fcs.busy = true) (e : ErrCode) : (s.finish e).Inv :=
  ofParts (h.bpeSound.setFlag (by decide)) (h.fcsSound.finish hb e) h.devSound h.selected nofun h.faults

theorem goto {s : State} {c : Cmd} {st st' : SeqStep} (h : s.Inv) (ha : s.atStep c st)
    (hl : legalStep s.cfg.variant c st' = true) : (s.goto st').Inv :=
  h.withFcs (h.fcsSound.move ha.1 ha.2.1 hl _ _) (fun _ => h.exclusive ha.1) rfl

theorem gotoPoll {s : State} {c : Cmd} {st st' : SeqStep} (h : s.Inv) (ha : s.atStep c st)
    (hl : legalStep s.cfg.variant c st' = true) : (s.gotoPoll st').Inv :=
  h.withFcs (h.fcsSound.move ha.1 ha.2.1 hl _ _) (fun _ => h.exclusive ha.1) rfl

theorem fcsPerform {s : State} (h : s.Inv) (hb : s.fcs.busy = true) (f : BusFrame) : (s.fcsPerform f).Inv := by
  have hp : (s.perform f).Inv := h.perform (h.csact_of_busy hb) f
  have hfcs : Fcs.Sound s.cfg.variant { s.fcs with rbytes := s.frameBytes f } :=
    h.fcsSound.withFree (rbytes := s.frameBytes f)
  refine hp.withFcs ?_ ?_ (by simp)
  · simpa using hfcs
  · simpa using h.exclusive

/-- A frame of the FCS ends the command, or goes on with the command at the same step (R120, R153). -/
theorem run {s : State} {c : Cmd} {st : SeqStep} {f : BusFrame} {k : List Byte → State → State} (h : s.Inv)
    (ha : s.atStep c st) (hk : ∀ r t, t.Inv → t.atStep c st → t.cfg = s.cfg → (k r t).Inv) : (s.run f k).Inv := by
  have hdraw : s.drawStall.2.Inv := h.drawStall
  have hbusy : s.drawStall.2.fcs.busy = true := by simpa using ha.1
  unfold State.run
  split
  · exact h.finish ha.1 _
  · split
    · exact hdraw.havoc.finish hbusy _
    · exact hk _ _ (hdraw.fcsPerform hbusy f) (by simpa [State.atStep] using ha) (by simp)

theorem judgePoll {s : State} {target : PollTarget} {next : State → State} {sr : Byte} (h : s.Inv)
    (hb : s.fcs.busy = true) (hnext : (next s).Inv) : (s.judgePoll target next sr).Inv := by
  unfold State.judgePoll
  split
  · exact hnext
  · split
    · exact h.finish hb _
    · exact h

theorem poll {s : State} {c : Cmd} {st : SeqStep} {target : PollTarget} {next : State → State} (h : s.Inv)
    (ha : s.atStep c st) (hnext : ∀ t, t.Inv → t.atStep c st → t.cfg = s.cfg → (next t).Inv) :
    (s.poll target next).Inv := by
  refine h.run ha fun r t ht hat hcfg => ?_
  have hcount : (t.countPoll (rbyte r 0)).Inv :=
    ht.withFcs ht.fcsSound.withFree (fun _ => ht.exclusive hat.1) rfl
  exact hcount.judgePoll hat.1 (hnext _ hcount hat hcfg)

theorem deviceModeReset {s : State} (h : s.Inv) : s.deviceModeReset.Inv :=
  h.withFcs ((h.fcsSound.withAddr4 fun _ => rfl).withFree) h.exclusive rfl

theorem identified {s : State} (h : s.Inv) (hb : s.fcs.busy = true) (r : List Byte) : (s.identified r).Inv := by
  have hid : State.Inv { s with fcs := { s.fcs with seqid := idWord (idOf r) } } :=
    h.withFcs (h.fcsSound.withSeqid (idWord_reserved (idOf r))) h.exclusive rfl
  exact hid.finish hb _

theorem setSr {s : State} (h : s.Inv) (b : Byte) : (s.setSr b).Inv :=
  h.withFcs (h.fcsSound.withFree (seqsr := b)) h.exclusive rfl

theorem fillBuf {s : State} (h : s.Inv) (l : List Byte) : (s.fillBuf l).Inv := h.of_unchanged rfl rfl rfl rfl h.faults

theorem quadEnabled {s : State} (h : s.Inv) (hb : s.fcs.busy = true) : s.quadEnabled.Inv := by
  have hquad : State.Inv { s with fcs := { s.fcs with quadact := true } } :=
    h.withFcs (h.fcsSound.withFree (quadact := true)) h.exclusive rfl
  exact hquad.finish hb _

/-- ADDR4 may be set on variant A, and be cleared on both. -/
theorem addrModeSet {s : State} (h : s.Inv) (hb : s.fcs.busy = true) {on : Bool}
    (hon : s.cfg.variant = .B → on = false) : (s.addrModeSet on).Inv := by
  have hmode : State.Inv { s with fcs := { s.fcs with addr4 := on } } :=
    h.withFcs (h.fcsSound.withAddr4 hon) h.exclusive rfl
  exact hmode.finish hb _

end State.Inv

/-! ## The steps of the commands (R153, R158, R165 to R190) -/

/-- Where a command has WREN, that step is the shared one (R158). -/
theorem cmdStep_wren {v : Variant} {c : Cmd} {s : State} (hl : legalStep v c .wren = true) (hst : s.fcs.step = .wren) :
    cmdStep c s = stepWren s := by
  cases c with
  | reset | readJedecId | readStatus | highSpeedRead | waitReady => cases hl
  | writeEnable => simp only [cmdStep, stepWriteEnable, hst]
  | enableQuadIo => simp only [cmdStep, stepEnableQuadIo, hst]
  | sectorErase => simp only [cmdStep, stepSectorErase, hst]
  | pageProgram => simp only [cmdStep, stepPageProgram, hst]
  | setDummyCycles => simp only [cmdStep, stepSetDummyCycles, hst]
  | enter4Byte => simp only [cmdStep, stepEnter4Byte, hst]
  | exit4Byte => simp only [cmdStep, stepExit4Byte, hst]

/-- Where a command has POLL_WEL, that step polls for the write-enable latch; WRITE_ENABLE then ends, and every other
command goes on to MAIN (R158, R171). -/
theorem cmdStep_pollWel {v : Variant} {c : Cmd} {s : State} (hl : legalStep v c .pollWel = true)
    (hst : s.fcs.step = .pollWel) :
    cmdStep c s = s.poll .wel (if c = .writeEnable then State.finish .none else State.goto .main) := by
  cases c with
  | reset | readJedecId | readStatus | highSpeedRead | waitReady => cases hl
  | writeEnable => simp only [cmdStep, stepWriteEnable, hst]; rfl
  | enableQuadIo => simp only [cmdStep, stepEnableQuadIo, hst]; rfl
  | sectorErase => simp only [cmdStep, stepSectorErase, hst]; rfl
  | pageProgram => simp only [cmdStep, stepPageProgram, hst]; rfl
  | setDummyCycles => simp only [cmdStep, stepSetDummyCycles, hst]; rfl
  | enter4Byte => simp only [cmdStep, stepEnter4Byte, hst]; rfl
  | exit4Byte => simp only [cmdStep, stepExit4Byte, hst]; rfl

/-- MAIN2 is a step of RESET alone (R165). -/
theorem eq_reset_of_main2 {v : Variant} {c : Cmd} (hl : legalStep v c .main2 = true) : c = .reset := by
  cases c with
  | reset => rfl
  | enableQuadIo | setDummyCycles | enter4Byte | exit4Byte => cases v <;> cases hl
  | _ => cases hl

/-- POLL_WIP is a step of WAIT_READY alone (R185). -/
theorem eq_waitReady_of_pollWip {v : Variant} {c : Cmd} (hl : legalStep v c .pollWip = true) : c = .waitReady := by
  cases c with
  | waitReady => rfl
  | enableQuadIo | setDummyCycles | enter4Byte | exit4Byte => cases v <;> cases hl
  | _ => cases hl

namespace State.Inv

/-- CHECK goes on to the next step of its command, or ends the command (R157). -/
theorem check {s : State} {c : Cmd} (h : s.Inv) (ha : s.atStep c .check) : (cmdStep c s).Inv := by
  have hl := h.legal ha
  have ⟨hb, _, hst⟩ := ha
  cases c with
  | reset => simp only [cmdStep, stepReset, hst]; exact h.goto ha rfl
  | readJedecId => simp only [cmdStep, stepReadJedecId, hst]; exact h.goto ha rfl
  | readStatus => simp only [cmdStep, stepReadStatus, hst]; exact h.goto ha rfl
  | writeEnable => simp only [cmdStep, stepWriteEnable, hst]; exact h.goto ha rfl
  | enableQuadIo =>
    simp only [cmdStep, stepEnableQuadIo, hst]
    split
    · exact h.finish hb _
    · split
      · rename_i hA
        exact h.goto ha (by rw [hA]; rfl)
      · exact h.goto ha rfl
  | sectorErase =>
    simp only [cmdStep, stepSectorErase, hst]
    split
    · exact h.goto ha rfl
    · exact h.finish hb _
  | pageProgram =>
    simp only [cmdStep, stepPageProgram, hst]
    split
    · exact h.goto ha rfl
    · exact h.finish hb _
  | highSpeedRead =>
    simp only [cmdStep, stepHighSpeedRead, hst]
    split
    · exact h.goto ha rfl
    · exact h.finish hb _
  | waitReady => simp only [cmdStep, stepWaitReady, hst]; exact h.gotoPoll ha rfl
  | setDummyCycles => simp only [cmdStep, stepSetDummyCycles, hst]; exact h.goto ha (legalStep_wren_of_onlyA rfl hl)
  | enter4Byte => simp only [cmdStep, stepEnter4Byte, hst]; exact h.goto ha (legalStep_wren_of_onlyA rfl hl)
  | exit4Byte => simp only [cmdStep, stepExit4Byte, hst]; exact h.goto ha (legalStep_wren_of_onlyA rfl hl)

/-- MAIN runs the frame of its command and does the command's bookkeeping; ADDR4 is set on variant A alone. -/
theorem main {s : State} {c : Cmd} (h : s.Inv) (ha : s.atStep c .main) : (cmdStep c s).Inv := by
  have hl := h.legal ha
  have ⟨_, _, hst⟩ := ha
  cases c with
  | writeEnable | waitReady => cases hl
  | reset => simp only [cmdStep, stepReset, hst]; exact h.run ha fun _ _ ht hat _ => ht.goto hat rfl
  | readJedecId =>
    simp only [cmdStep, stepReadJedecId, hst]
    exact h.run ha fun r _ ht hat _ => ht.identified hat.1 r
  | readStatus =>
    simp only [cmdStep, stepReadStatus, hst]
    exact h.run ha fun r _ ht hat _ => (ht.setSr (rbyte r 0)).finish hat.1 _
  | enableQuadIo =>
    simp only [cmdStep, stepEnableQuadIo, hst]
    split <;> exact h.run ha fun _ _ ht hat _ => ht.quadEnabled hat.1
  | sectorErase => simp only [cmdStep, stepSectorErase, hst]; exact h.run ha fun _ _ ht hat _ => ht.finish hat.1 _
  | pageProgram => simp only [cmdStep, stepPageProgram, hst]; exact h.run ha fun _ _ ht hat _ => ht.finish hat.1 _
  | highSpeedRead =>
    simp only [cmdStep, stepHighSpeedRead, hst]
    exact h.run ha fun r _ ht hat _ => (ht.fillBuf r).finish hat.1 _
  | setDummyCycles =>
    simp only [cmdStep, stepSetDummyCycles, hst]
    exact h.run ha fun _ _ ht hat _ => ht.finish hat.1 _
  | enter4Byte =>
    simp only [cmdStep, stepEnter4Byte, hst]
    refine h.run ha fun _ _ ht hat _ => ht.addrModeSet hat.1 fun hB => ?_
    rw [((legalStep_onlyA rfl).1 (ht.legal hat)).1] at hB
    cases hB
  | exit4Byte =>
    simp only [cmdStep, stepExit4Byte, hst]
    exact h.run ha fun _ _ ht hat _ => ht.addrModeSet hat.1 fun _ => rfl

/-- The step of a running command. -/
theorem cmdStep {s : State} {c : Cmd} {st : SeqStep} (h : s.Inv) (ha : s.atStep c st) : (cmdStep c s).Inv := by
  have hl := h.legal ha
  have ⟨_, _, hst⟩ := ha
  cases st with
  | idle => simp [legalStep_idle] at hl
  | check => exact h.check ha
  | wren =>
    rw [cmdStep_wren hl hst]
    exact h.run ha fun _ _ ht hat _ => ht.gotoPoll hat (legalStep_pollWel_of_wren (ht.legal hat))
  | pollWel =>
    rw [cmdStep_pollWel hl hst]
    refine h.poll ha fun t ht hat _ => ?_
    split
    · exact ht.finish hat.1 _
    · exact ht.goto hat (legalStep_main_of_pollWel ‹_› (ht.legal hat))
  | main => exact h.main ha
  | main2 =>
    obtain rfl := eq_reset_of_main2 hl
    simp only [Machine.cmdStep, stepReset, hst]
    exact h.run ha fun _ _ ht hat _ => ht.deviceModeReset.finish hat.1 _
  | pollWip =>
    obtain rfl := eq_waitReady_of_pollWip hl
    simp only [Machine.cmdStep, stepWaitReady, hst]
    exact h.poll ha fun _ ht hat _ => ht.finish hat.1 _

/-- The FCS agent's step (R153). -/
theorem fcsStep {s : State} (h : s.Inv) : (fcsStep s).Inv := by
  cases hb : s.fcs.busy with
  | false => rwa [fcsStep_idle hb]
  | true =>
    cases hc : s.fcs.cmd with
    | none => simpa [Machine.fcsStep, hb, hc] using h
    | some c =>
      rw [fcsStep_running hb hc]
      exact h.cmdStep ⟨hb, hc, rfl⟩

end State.Inv

/-! ## The BPE (R113 to R135) -/

namespace Bpe.Sound

/-- What no clause of the invariant speaks of may change. -/
theorem of_same {b b' : Bpe} (h : b.Sound) (hinten : b'.inten = b.inten := by rfl)
    (hintflag : b'.intflag = b.intflag := by rfl) (hinstrctrl : b'.instrctrl = b.instrctrl := by rfl)
    (hstalled : b'.stalled = b.stalled := by rfl) (hfstate : b'.fstate = b.fstate := by rfl)
    (hfdesc : b'.fdesc = b.fdesc := by rfl) : b'.Sound := by
  refine ⟨?_, ?_, ?_, ?_, ?_⟩
  · rw [hinten]; exact h.inten
  · rw [hintflag]; exact h.intflag
  · rw [hinstrctrl]; exact h.instrctrl
  · rw [Bpe.frameLatched, hfstate, hfdesc]; exact h.latched
  · rw [hstalled, hfstate]; exact h.stalled

/-- The frame machine may move to any state that it has a frame for, unless its frame is stalled. -/
theorem move {b b' : Bpe} (h : b.Sound) (hlatched : b'.frameLatched = true) (hstalled : b'.stalled = false)
    (hinten : b'.inten = b.inten := by rfl) (hintflag : b'.intflag = b.intflag := by rfl)
    (hinstrctrl : b'.instrctrl = b.instrctrl := by rfl) : b'.Sound := by
  refine ⟨?_, ?_, ?_, hlatched, ?_⟩
  · rw [hinten]; exact h.inten
  · rw [hintflag]; exact h.intflag
  · rw [hinstrctrl]; exact h.instrctrl
  · simp [hstalled]

theorem not_stalled {b : Bpe} (h : b.Sound) (hf : b.fstate ≠ .running) : b.stalled = false :=
  Bool.eq_false_iff.2 fun hs => hf (h.stalled hs)

/-- The frame that is armed is a data frame. -/
theorem armed_kind {b : Bpe} (h : b.Sound) {f : Frame} (hf : b.fstate = .armed) (hd : b.fdesc = some f) :
    f.kind ≠ .cmd := by
  simpa [Bpe.frameLatched, hf, hd] using h.latched

theorem clearFlags {b : Bpe} (h : b.Sound) (v : Word) : (b.clearFlags v).Sound := by
  refine ⟨h.inten, ?_, h.instrctrl, h.latched, h.stalled⟩
  rw [Bpe.clearFlags, BitVec.and_assoc, BitVec.and_comm (~~~(v &&& intMask)), ← BitVec.and_assoc, h.intflag,
    BitVec.zero_and]

theorem clearEnables {b : Bpe} (h : b.Sound) (v : Word) : (b.clearEnables v).Sound := by
  refine ⟨?_, h.intflag, h.instrctrl, h.latched, h.stalled⟩
  rw [Bpe.clearEnables, BitVec.and_assoc, BitVec.and_comm (~~~(v &&& intMask)), ← BitVec.and_assoc, h.inten,
    BitVec.zero_and]

theorem setEnables {b : Bpe} (h : b.Sound) (v : Word) : (b.setEnables v).Sound := by
  refine ⟨?_, h.intflag, h.instrctrl, h.latched, h.stalled⟩
  rw [Bpe.setEnables, BitVec.and_or_distrib_right, h.inten, BitVec.and_assoc, BitVec.and_not_self]
  simp

theorem powerOn : Bpe.powerOn.Sound := ⟨rfl, rfl, rfl, rfl, nofun⟩

theorem softReset (b : Bpe) : b.softReset.Sound := Bpe.Sound.powerOn.move rfl rfl

end Bpe.Sound

theorem Fcs.Sound.powerOn (v : Variant) : Fcs.powerOn.Sound v :=
  ⟨rfl, rfl, rfl, nofun, fun _ => rfl, nofun, iff_of_true rfl rfl, fun _ => rfl⟩

theorem Fcs.Sound.softReset {v : Variant} {c : Fcs} (h : c.Sound v) : c.softReset.Sound v :=
  ((powerOn v).withAddr4 h.addr4).withFree (quadact := c.quadact) (rbytes := c.rbytes)

/-- A power cycle leaves the device sound (R210, R229). -/
theorem devPowerOn_sound {s : State} (h : s.DevSound) : s.devPowerOn.DevSound := by
  refine ⟨abandonedArr_wf h.arr, fun hB => ?_, rfl⟩
  have hvariant : s.cfg.devVariant = .B := hB
  simp [State.devPowerOn, Dev.powerOn, hvariant]

namespace State.Inv

/-- A frame of the host begins at the device, in a state of the frame machine with chip select asserted. -/
theorem beginFrame {s : State} {b : Bpe} (h : s.Inv) (hb : s.fcs.busy = false) (hbpe : b.Sound)
    (hcs : b.csact = true) (f : Frame) : (State.devBegin f { s with bpe := b }).Inv :=
  ofParts hbpe h.fcsSound (devBegin_sound (s := { s with bpe := b }) h.devSound f) hcs.symm
    (fun hbusy => absurd hbusy (by simp [hb])) h.faults

theorem storeFrame {s : State} (h : s.Inv) (v : Word) : (s.storeFrame v).Inv :=
  h.withBpe h.bpeSound.of_same rfl rfl

theorem startCmd {s : State} (h : s.Inv) (hb : s.fcs.busy = false) (hf : s.bpe.fstate = .idle) (f : Frame) :
    (s.startCmd f).Inv := by
  have hbpe : Bpe.Sound { s.bpe with fdesc := some f, fstate := .running } :=
    h.bpeSound.move rfl (h.bpeSound.not_stalled (by simp [hf]))
  exact h.beginFrame hb hbpe rfl _

theorem arm {s : State} {f : Frame} (h : s.Inv) (hb : s.fcs.busy = false) (hf : s.bpe.fstate = .idle)
    (hk : f.kind ≠ .cmd) : (s.arm f).Inv := by
  have hcur : s.dev.cur = none := h.cur_eq_none (by simp [Bpe.csact, hf])
  refine ofParts (h.bpeSound.move ?_ (h.bpeSound.not_stalled (by simp [hf]))) h.fcsSound h.devSound ?_ ?_ h.faults
  · simpa [State.arm, Bpe.frameLatched] using hk
  · exact congrArg Option.isSome hcur
  · exact fun hbusy => absurd hbusy (by simp [hb])

theorem launch {s : State} (h : s.Inv) (hb : s.fcs.busy = false) (hf : s.bpe.fstate = .idle) (v : Word) :
    (s.launch v).Inv := by
  unfold State.launch
  split
  · exact h.startCmd hb hf _
  · exact h.arm hb hf ‹_›

theorem writeInstrframe {s : State} (h : s.Inv) (v : Word) : (writeInstrframe v s).Inv := by
  obtain ⟨-, he⟩ | ⟨-, -, he⟩ | ⟨-, -, -, he⟩ | ⟨hb, hf, -, he⟩ := writeInstrframe_cases v s <;> rw [he]
  · exact h.raiseFault _
  · exact h.raiseFault _
  · exact (h.storeFrame v).flag (by decide)
  · exact (h.storeFrame v).launch hb hf v

theorem openFrame {s : State} {f : Frame} {isOpen : Bool} (h : s.Inv) (hb : s.fcs.busy = false)
    (hd : s.bpe.fdesc = some f) (hf : s.bpe.fstate = if isOpen then .opened else .armed) (o : Word) :
    (s.openFrame f isOpen o).Inv := by
  cases isOpen with
  | true => exact h
  | false =>
    have hkind : f.kind ≠ .cmd := h.bpeSound.armed_kind hf hd
    have hbpe : Bpe.Sound { s.bpe with faddr := openAddr s f o, fstate := .opened } :=
      h.bpeSound.move (by simpa [Bpe.frameLatched, hd] using hkind) (h.bpeSound.not_stalled (by simp [hf]))
    exact h.beginFrame hb hbpe rfl _

theorem devSentN {s : State} (h : s.Inv) (n : Nat) : (s.devSentN n).Inv := by
  refine ofParts ?_ ?_ (devSentN_sound h.devSound n) ?_ ?_ ?_
  · simpa using h.bpeSound
  · simpa using h.fcsSound
  · simpa [devSentN_dev] using h.selected
  · simpa using h.exclusive
  · simpa using h.faults

theorem devTake {s : State} (h : s.Inv) (l : List Byte) : (s.devTake l).Inv :=
  ofParts h.bpeSound h.fcsSound (devTake_sound h.devSound l) (by simpa using h.selected) h.exclusive h.faults

theorem countRead {s : State} (h : s.Inv) (o : Word) (n : Nat) : (s.countRead o n).Inv :=
  h.withBpe h.bpeSound.of_same rfl rfl

theorem countWrite {s : State} (h : s.Inv) (o : Word) (l : List Byte) : (s.countWrite o l).Inv :=
  h.withBpe h.bpeSound.of_same rfl rfl

theorem winRead {s : State} (h : s.Inv) (n : AccessSize) (o : Word) : ∃ t, exec (.winRead n o) s = .next t ∧ t.Inv := by
  refine ⟨_, rfl, ?_⟩
  split
  · exact h.raiseFault _
  · rename_i f isOpen hok
    obtain ⟨-, hb, hd, hf, -⟩ := windowCheck_ok hok
    exact ((((h.openFrame hb hd hf o).devSentN _).snoopBytes _ _).countRead _ _).answer _

theorem winWrite {s : State} (h : s.Inv) (n : AccessSize) (o v : Word) :
    ∃ t, exec (.winWrite n o v) s = .next t ∧ t.Inv := by
  refine ⟨_, rfl, ?_⟩
  split
  · exact h.raiseFault _
  · rename_i f isOpen hok
    obtain ⟨-, hb, hd, hf, -⟩ := windowCheck_ok hok
    exact (((h.openFrame hb hd hf o).devTake _).countWrite _ _).accept

theorem writeEnable {s : State} (h : s.Inv) (en : Bool) : (s.writeEnable en).Inv :=
  h.withBpe h.bpeSound.of_same rfl rfl

theorem lastXfer {s : State} (h : s.Inv) (hb : s.fcs.busy = false) : s.lastXfer.Inv := by
  unfold State.lastXfer
  split
  case h_1 | h_4 => exact h
  case h_2 hf =>
    split
    · exact h
    · rename_i f hd
      have hbpe : Bpe.Sound { s.bpe with fstate := .running } :=
        h.bpeSound.move (by simp [Bpe.frameLatched, hd]) (h.bpeSound.not_stalled (by simp [hf]))
      exact h.beginFrame hb hbpe rfl _
  case h_3 hf =>
    have hlatched := h.latched
    refine ofParts (h.bpeSound.move ?_ (h.bpeSound.not_stalled (by simp [hf]))) h.fcsSound h.devSound ?_ ?_ h.faults
    · cases hd : s.bpe.fdesc <;> simp_all [Bpe.frameLatched]
    · simpa [Bpe.csact, hf] using h.selected
    · exact fun hbusy => absurd hbusy (by simp [hb])

theorem bpeLastXfer {s : State} (h : s.Inv) (en : Bool) : ∃ t, exec (.bpeLastXfer en) s = .next t ∧ t.Inv := by
  refine ⟨_, rfl, ?_⟩
  split
  · exact h.raiseFault _
  · rename_i hb
    split
    · exact h.raiseFault _
    · exact (h.writeEnable en).lastXfer (by simpa using hb)

theorem bpeEnable {s : State} (h : s.Inv) (en : Bool) : ∃ t, exec (.bpeEnable en) s = .next t ∧ t.Inv := by
  refine ⟨_, rfl, ?_⟩
  split
  · exact h.raiseFault _
  · exact h.writeEnable en

theorem completeFrame {s : State} (h : s.Inv) (hs : s.bpe.stalled = false) : s.completeFrame.Inv := by
  have hidle : Bpe.Sound { s.bpe with fstate := .idle } := h.bpeSound.move rfl hs
  refine ofParts ?_ ?_ (devEnd_sound h.devSound) ?_ (fun _ => rfl) ?_
  · simpa [State.completeFrame] using hidle.setFlag (v := flagInstrEnd) (by decide)
  · simpa [State.completeFrame] using h.fcsSound
  · simp [State.completeFrame, Bpe.csact]
  · simpa [State.completeFrame] using h.faults

/-- The BPE agent's step (R133). -/
theorem bpeStep {s : State} (h : s.Inv) : (bpeStep s).Inv := by
  unfold Machine.bpeStep
  split
  · rename_i hrun
    obtain ⟨hf, hs⟩ := hrun
    split
    · have hd : s.drawStall.2.Inv := h.drawStall
      refine hd.withBpe ?_ rfl rfl
      exact ⟨hd.inten, hd.intflag, hd.instrctrl, hd.latched, fun _ => by simpa using hf⟩
    · exact h.drawStall.completeFrame (by simpa using hs)
  · exact h

/-! ## Commands of the sequencer, registers and resets -/

theorem startCommand {s : State} (h : s.Inv) (c : Cmd) : (startCommand c s).Inv := by
  obtain ⟨-, he⟩ | ⟨-, -, he⟩ | ⟨-, -, -, he⟩ | ⟨-, hf, hc, he⟩ := startCommand_cases c s <;> rw [he]
  · exact h.raiseFault _
  · exact h.raiseFault _
  · exact h.raiseFault _
  · exact h.withFcs (h.fcsSound.start (legalStep_check hc)) (fun _ => hf) rfl

theorem seqClrDone {s : State} (h : s.Inv) : ∃ t, exec .seqClrDone s = .next t ∧ t.Inv := by
  cases hb : s.fcs.busy with
  | true => exact ⟨_, exec_seqClrDone_busy hb, h.accept⟩
  | false =>
    refine ⟨_, exec_seqClrDone_idle hb, h.withFcs ?_ h.exclusive rfl⟩
    exact ⟨h.seqparam, h.seqbudget, h.seqid, h.running, h.resting, fun _ => rfl, iff_of_true rfl rfl, h.addr4⟩

theorem storeReg {s : State} (h : s.Inv) (r : WriteReg) (v : Word) : (storeReg r v s).Inv := by
  have hmask (m : Word) : v &&& m &&& ~~~m = 0#32 := by
    rw [BitVec.and_assoc, BitVec.and_not_self]
    exact BitVec.and_zero
  cases r with
  | ctrlb | baud | instraddr => exact h.withBpe h.bpeSound.of_same rfl rfl
  | instrctrl => exact h.withBpe ⟨h.inten, h.intflag, hmask _, h.latched, h.stalled⟩ rfl rfl
  | seqaddr => exact h.withFcs (h.fcsSound.withFree (seqaddr := v)) h.exclusive rfl
  | seqlen => exact h.withFcs (h.fcsSound.withFree (seqlen := v.extractLsb' 0 9)) h.exclusive rfl
  | seqparam =>
    refine h.withFcs ?_ h.exclusive rfl
    exact ⟨hmask _, h.seqbudget, h.seqid, h.running, h.resting, h.ended, h.failed, h.addr4⟩
  | seqbudget =>
    refine h.withFcs ?_ h.exclusive rfl
    exact ⟨h.seqparam, hmask _, h.seqid, h.running, h.resting, h.ended, h.failed, h.addr4⟩

theorem writeReg {s : State} (h : s.Inv) (r : WriteReg) (v : Word) : (writeReg r v s).Inv := by
  have hstore := (h.storeReg r v).accept
  cases r with
  | ctrlb | baud => exact hstore
  | instraddr | instrctrl =>
    rw [writeReg_frame (by simp)]
    split
    · exact h.raiseFault _
    · split
      · exact h.raiseFault _
      · exact hstore
  | seqaddr | seqlen | seqparam | seqbudget =>
    rw [writeReg_operand (by simp)]
    split
    · exact h.raiseFault _
    · exact hstore

theorem readBuf {s : State} (h : s.Inv) (n : AccessSize) (i : Nat) : (readBuf n i s).Inv := by
  unfold Machine.readBuf
  split
  · exact h.raiseFault _
  · exact h.answer _

theorem writeBuf {s : State} (h : s.Inv) (n : AccessSize) (i : Nat) (v : Word) : (writeBuf n i v s).Inv := by
  unfold Machine.writeBuf
  split
  · exact h.raiseFault _
  · exact h.of_unchanged rfl rfl rfl rfl h.faults

theorem reservedCmd {s : State} (h : s.Inv) : (reservedCmd s).Inv := by
  unfold Machine.reservedCmd
  split_ifs <;> exact h.raiseFault _

theorem execPlain {s : State} (h : s.Inv) (p : PlainOp) : (execPlain p s).Inv := by
  cases p with
  | readReg r => exact h.answer _
  | writeReg r v => exact h.writeReg r v
  | readBuf n i => exact h.readBuf n i
  | writeBuf n i v => exact h.writeBuf n i v
  | reservedCmd c => exact h.reservedCmd
  | seqstatusIdle => exact h.accept

theorem devCut_sound {s : State} (h : s.Inv) : s.devCut.DevSound := (h.devSound.arbitrary _).atEnd _

theorem softReset {s : State} (h : s.Inv) : s.softReset.Inv := by
  have hdev : s.cutFrame.DevSound ∧ s.cutFrame.dev.cur = none := by
    unfold State.cutFrame
    split
    · exact ⟨h.devCut_sound, rfl⟩
    · rename_i hcs
      exact ⟨h.devSound, h.cur_eq_none (by simpa using hcs)⟩
  refine ofParts (Bpe.Sound.softReset s.bpe) ?_ hdev.1 (congrArg Option.isSome hdev.2) (fun _ => rfl) ?_
  · simpa [State.softReset] using h.fcsSound.softReset
  · simpa [State.softReset] using h.faults

theorem dropFrame_dev {s : State} (h : s.Inv) : s.dropFrame.DevSound ∧ s.dropFrame.dev.cur = none := by
  unfold State.dropFrame
  split
  · exact ⟨h.devCut_sound, rfl⟩
  · exact ⟨h.devSound.atEnd s.dev.rsten, rfl⟩

theorem powerOnReset {s : State} (h : s.Inv) (d : Bool) : (s.powerOnReset d).Inv := by
  obtain ⟨hdrop, hnone⟩ := h.dropFrame_dev
  cases d with
  | false =>
    refine ofParts Bpe.Sound.powerOn (Fcs.Sound.powerOn _) hdrop (congrArg Option.isSome hnone) nofun ?_
    simpa [State.powerOnReset] using h.faults
  | true =>
    refine ofParts Bpe.Sound.powerOn (Fcs.Sound.powerOn _) (devPowerOn_sound hdrop) rfl nofun ?_
    simpa [State.powerOnReset, State.devPowerOn] using h.faults

/-! ## Every instruction and every agent -/

/-- Every instruction answers a next state, and keeps the invariant. -/
theorem exec {s : State} (h : s.Inv) (i : Instr) : ∃ t, exec i s = .next t ∧ t.Inv := by
  cases i with
  | bpeCmd d | bpeRegRead d | bpeMemRead d | bpeRegWrite d | bpeMemWrite d => exact ⟨_, rfl, h.writeInstrframe _⟩
  | bpeFrame v => exact ⟨_, rfl, h.writeInstrframe v⟩
  | bpeSync => exact ⟨_, rfl, h.withBpe h.bpeSound.of_same rfl rfl⟩
  | bpeLastXfer en => exact h.bpeLastXfer en
  | bpeEnable en => exact h.bpeEnable en
  | bpeSwrst => exact ⟨_, rfl, h.softReset⟩
  | bpeClrFlag e i q => exact ⟨_, rfl, h.withBpe (h.bpeSound.clearFlags _) rfl rfl⟩
  | bpeIntenSet e i q => exact ⟨_, rfl, h.withBpe (h.bpeSound.setEnables _) rfl rfl⟩
  | bpeIntenClr e i q => exact ⟨_, rfl, h.withBpe (h.bpeSound.clearEnables _) rfl rfl⟩
  | winRead n o => exact h.winRead n o
  | winWrite n o v => exact h.winWrite n o v
  | seqReset | seqReadJedecId | seqReadStatus | seqWriteEnable | seqEnableQuadIo | seqSectorErase | seqPageProgram
  | seqHighSpeedRead | seqWaitReady | seqSetDummyCycles | seqEnter4Byte | seqExit4Byte =>
    exact ⟨_, rfl, h.startCommand _⟩
  | seqClrDone => exact h.seqClrDone
  | crcInit | crcSnoop | crcFeed8 | crcFeed16 | crcFeed32 | crcLoad | crcExpect =>
    exact ⟨_, rfl, h.of_unchanged rfl rfl rfl rfl h.faults⟩
  | crcResult r => cases r <;> exact ⟨_, rfl, h.answer _⟩
  | devWren | devRdsr | devRdid | devRdidQ | devSe | devPp | devRead111 | devRead112 | devRead114 | devRead122
  | devRead144 | devRsten | devRst | devEqio | devWrevcr | devWrvcr | devEn4b | devEx4b =>
    exact ⟨_, rfl, h.busDeliver _⟩

theorem deliver {s t : State} (h : s.Inv) {x : Fetched} (ht : deliver x s = .next t) : t.Inv := by
  cases x with
  | unmapped => cases ht
  | powerOn d =>
    cases ht
    exact h.powerOnReset d
  | decoded d =>
    cases d with
    | instr i =>
      obtain ⟨u, hu, hinv⟩ := h.exec i
      cases hu.symm.trans ht
      exact hinv
    | plain p =>
      cases ht
      exact h.execPlain p
    | refused r =>
      cases ht
      exact h.raiseFault r
    | unknownFrame f =>
      cases ht
      exact h.busDeliver f

theorem hostStep {s t : State} (h : s.Inv) (ht : hostStep s = .next t) : t.Inv := by
  unfold Machine.hostStep at ht
  split at ht
  · cases ht
    exact h
  · rename_i x rest hx
    have hrest : State.Inv { s with inputs := rest } := h.of_unchanged rfl rfl rfl rfl h.faults
    exact hrest.deliver ht

theorem agentStep {s t : State} {a : Agent} (h : s.Inv) (ht : agentStep a s = .next t) : t.Inv := by
  cases a with
  | host => exact h.hostStep ht
  | bpe => cases ht; exact h.bpeStep
  | fcs => cases ht; exact h.fcsStep
  | device => cases ht; exact h.devStep
  | clock => cases ht; exact h.of_unchanged rfl rfl rfl rfl h.faults

end State.Inv

/-- Settles O7: the choice of the agent keeps the invariant, and so does each agent's step. -/
theorem invKept : Obligations.InvKept :=
  fun _ _ h ht => h.advance.agentStep ht

end Sys2Proof.Machine

/-! The laws of the frames that the FCS runs in each step, and the statement of spec/40_bus_engine.md that follows from
them. -/

namespace Sys2Proof.Machine

/-! ## The frame of each step (R120, R153, R158) -/

/-- MAIN of every command that has it runs one frame. -/
theorem cmdStep_main {v : Variant} {c : Cmd} {s : State} (hl : legalStep v c .main = true)
    (hst : s.fcs.step = .main) : ∃ f k, cmdStep c s = s.run f k := by
  cases c with
  | writeEnable | waitReady => cases hl
  | reset => exact ⟨_, _, by simp only [cmdStep, stepReset, hst]; rfl⟩
  | readJedecId => exact ⟨_, _, by simp only [cmdStep, stepReadJedecId, hst]; rfl⟩
  | readStatus => exact ⟨_, _, by simp only [cmdStep, stepReadStatus, hst]; rfl⟩
  | enableQuadIo =>
    cases hv : s.cfg.variant with
    | A => exact ⟨_, _, by simp only [cmdStep, stepEnableQuadIo, hst, hv]; rfl⟩
    | B => exact ⟨_, _, by simp only [cmdStep, stepEnableQuadIo, hst, hv]; rfl⟩
  | sectorErase => exact ⟨_, _, by simp only [cmdStep, stepSectorErase, stepMainBare, hst]; rfl⟩
  | pageProgram => exact ⟨_, _, by simp only [cmdStep, stepPageProgram, hst]; rfl⟩
  | highSpeedRead => exact ⟨_, _, by simp only [cmdStep, stepHighSpeedRead, hst]; rfl⟩
  | setDummyCycles => exact ⟨_, _, by simp only [cmdStep, stepSetDummyCycles, hst]; rfl⟩
  | enter4Byte => exact ⟨_, _, by simp only [cmdStep, stepEnter4Byte, hst]; rfl⟩
  | exit4Byte => exact ⟨_, _, by simp only [cmdStep, stepExit4Byte, hst]; rfl⟩

/-- Every step of every command but CHECK runs one frame (R153, R158). -/
theorem cmdStep_eq_run {v : Variant} {c : Cmd} {s : State} (hl : legalStep v c s.fcs.step = true)
    (hne : s.fcs.step ≠ .check) : ∃ f k, cmdStep c s = s.run f k := by
  cases hst : s.fcs.step <;> rw [hst] at hl
  case check => exact absurd hst hne
  case idle => simp [legalStep_idle] at hl
  case wren => exact ⟨_, _, cmdStep_wren hl hst⟩
  case pollWel => exact ⟨_, _, cmdStep_pollWel hl hst⟩
  case main => exact cmdStep_main hl hst
  case main2 =>
    obtain rfl := eq_reset_of_main2 hl
    exact ⟨_, _, by simp only [cmdStep, stepReset, hst]; rfl⟩
  case pollWip =>
    obtain rfl := eq_waitReady_of_pollWip hl
    exact ⟨_, _, by simp only [cmdStep, stepWaitReady, hst]; rfl⟩

/-- A command that ends with BusTimeout records its step (R151, R153). -/
theorem finish_busTimeout (s : State) : s.finish .busTimeout = { s with
    fcs := { s.fcs with err := .busTimeout, failstep := s.fcs.step, step := .idle, busy := false, doneFlag := true }
    bpe := { s.bpe with intflag := s.bpe.intflag ||| 0x00010000#32 } } := rfl

/-- Settles O32: the step runs a frame, and one that cannot be performed ends the command. -/
theorem fcsBusTimeout : Obligations.FcsBusTimeout := by
  rintro s c st ⟨hb, hc, rfl⟩ hl hne
  obtain ⟨f, k, hrun⟩ := cmdStep_eq_run hl hne
  have hstep : fcsStep s = s.run f k := (fcsStep_running hb hc).trans hrun
  rw [hstep]
  refine ⟨fun hoff => ?_, fun hon => ?_⟩
  · rw [run_disabled f k hoff, finish_busTimeout]
  · cases hs : s.drawStall.1 with
    | false => exact .inl rfl
    | true =>
      right
      rw [run_stalled f k hon hs, finish_busTimeout]
      simp only [State.havoc_fcs, State.havoc_bpe, State.drawStall_fcs, State.drawStall_bpe]

end Sys2Proof.Machine

/-! The laws of the sequencer's steps, one equation for each step of each command, and the statements of
spec/41_sequencer.md that follow from them. -/

namespace Sys2Proof.Machine

/-! ## Starting and ending a command (R150, R151) -/

theorem startCommand_busy (c : Cmd) {s : State} (hb : s.fcs.busy = true) :
    startCommand c s = s.raiseFault .sequencerBusy := by
  simp [startCommand, hb]

theorem startCommand_inFrame (c : Cmd) {s : State} (hb : s.fcs.busy = false) (hf : s.bpe.fstate ≠ .idle) :
    startCommand c s = s.raiseFault .frameBusy := by
  simp [startCommand, hb, hf]

/-- A command that the variant does not have (R96). -/
theorem startCommand_illegal {c : Cmd} {s : State} (hb : s.fcs.busy = false) (hf : s.bpe.fstate = .idle)
    (hc : c.onlyA = true) (hv : s.cfg.variant = .B) : startCommand c s = s.raiseFault .illegalCommand := by
  simp [startCommand, hb, hf, hc, hv, variantBit]

theorem startCommand_starts {c : Cmd} {s : State} (hb : s.fcs.busy = false) (hf : s.bpe.fstate = .idle)
    (hc : c.onlyA = true → s.cfg.variant = .A) :
    startCommand c s = { s with fcs := s.fcs.start c, resp := .accepted } := by
  have hlegal : (c.onlyA && variantBit s.cfg.variant) = false := by
    cases ho : c.onlyA with
    | false => rfl
    | true => rw [hc ho]; rfl
  simp [startCommand, hb, hf, hlegal]

/-- The SEQ rows with their commands, in the order of the command codes (R95). -/
def seqRows : List (Instr × Cmd) :=
  [(.seqReset, .reset), (.seqReadJedecId, .readJedecId), (.seqReadStatus, .readStatus),
    (.seqWriteEnable, .writeEnable), (.seqEnableQuadIo, .enableQuadIo), (.seqSectorErase, .sectorErase),
    (.seqPageProgram, .pageProgram), (.seqHighSpeedRead, .highSpeedRead), (.seqWaitReady, .waitReady),
    (.seqSetDummyCycles, .setDummyCycles), (.seqEnter4Byte, .enter4Byte), (.seqExit4Byte, .exit4Byte)]

theorem exec_seqRow {x : Instr × Cmd} (h : x ∈ seqRows) (s : State) : exec x.1 s = .next (startCommand x.2 s) := by
  revert x
  simp only [seqRows, List.forall_mem_cons, List.not_mem_nil, false_implies, implies_true, and_true]
  exact ⟨rfl, rfl, rfl, rfl, rfl, rfl, rfl, rfl, rfl, rfl, rfl, rfl⟩

/-- The commands from code 10 on are those that only variant A has (R95, R96). -/
theorem onlyA_iff_code {c : Cmd} : c.onlyA = true ↔ 10 ≤ c.code.toNat := by
  cases c <;> decide

/-- Settles O27: each row starts its command, whose code is the row's. -/
theorem seqRowsStart : Obligations.SeqRowsStart := by
  intro i c k s hrow hb hf hk
  have hmap : (i, c, k) ∈ seqRows.map fun x => (x.1, x.2, x.2.code) := hrow
  obtain ⟨x, hmem, heq⟩ := List.mem_map.1 hmap
  simp only [Prod.mk.injEq] at heq
  obtain ⟨rfl, rfl, rfl⟩ := heq
  rw [exec_seqRow hmem, startCommand_starts hb hf fun ho => hk (onlyA_iff_code.1 ho)]
  rfl

theorem reservedCmd_busy {s : State} (hb : s.fcs.busy = true) : reservedCmd s = s.raiseFault .sequencerBusy := by
  simp [reservedCmd, hb]

theorem reservedCmd_inFrame {s : State} (hb : s.fcs.busy = false) (hf : s.bpe.fstate ≠ .idle) :
    reservedCmd s = s.raiseFault .frameBusy := by
  simp [reservedCmd, hb, hf]

theorem reservedCmd_illegal {s : State} (hb : s.fcs.busy = false) (hf : s.bpe.fstate = .idle) :
    reservedCmd s = s.raiseFault .illegalCommand := by
  simp [reservedCmd, hb, hf]

/-- The command codes 0, 13, 14 and 15 name no command (R96). -/
theorem decodeSeqctrl_reserved {v : Word} (h : v.extractLsb' 0 4 ∈ [0#4, 13#4, 14#4, 15#4]) :
    decodeSeqctrl v = .plain (.reservedCmd (v.extractLsb' 0 4)) := by
  simp only [List.mem_cons, List.not_mem_nil, or_false] at h
  unfold decodeSeqctrl
  obtain h | h | h | h := h <;> rw [h] <;> rfl

/-- Settles O28, from the refusals of the start of a command and of a reserved CMD. -/
theorem seqRowsRefused : Obligations.SeqRowsRefused := by
  intro i c s refused onlyA
  refine ⟨fun hi => ?_, fun hb => ?_, fun hb hf => ?_, fun hb hf => ?_, fun v hv => ?_⟩
  · have hmap : i ∈ seqRows.map Prod.fst := hi
    obtain ⟨x, hmem, rfl⟩ := List.mem_map.1 hmap
    have honly : x.1 ∈ onlyA → x.2.onlyA = true := by
      revert x
      decide
    rw [exec_seqRow hmem]
    refine ⟨fun hb => ?_, fun hb hf => ?_, fun hb hf hA hB => ?_⟩
    · rw [startCommand_busy _ hb]; rfl
    · rw [startCommand_inFrame _ hb hf]; rfl
    · rw [startCommand_illegal hb hf (honly hA) hB]; rfl
  · exact congrArg Host.Outcome.next (reservedCmd_busy hb)
  · exact congrArg Host.Outcome.next (reservedCmd_inFrame hb hf)
  · exact congrArg Host.Outcome.next (reservedCmd_illegal hb hf)
  · exact (decodeHost_reg (by decide) .write v).trans (decodeSeqctrl_reserved hv)

/-- Settles O30: the flag that `finish` sets is SEQDONE. -/
theorem finishRule : Obligations.FinishRule := fun _ _ => rfl

/-- Settles O31, from the frames' definitions and the width that a code stands for. -/
theorem fcsFrameTable : Obligations.FcsFrameTable := by
  refine fun s => ⟨rfl, rfl, rfl, rfl, rfl, rfl, rfl, rfl, rfl, rfl, rfl, rfl, fun w op hw hop => ?_⟩
  have hwidth : widthOf s.fcs.paramWidth = w := by rw [widthOf, Fcs.paramWidth, hw]; rfl
  rw [fRead, hwidth, hop]
  rfl

/-! ## The steps of each command (R158, R165 to R190) -/

namespace State.atStep

variable {s : State} {c : Cmd} {st : SeqStep}

theorem busy (h : s.atStep c st) : s.fcs.busy = true := h.1

theorem cmd_eq (h : s.atStep c st) : s.fcs.cmd = some c := h.2.1

theorem step_eq (h : s.atStep c st) : s.fcs.step = st := h.2.2

end State.atStep

/-- At a command's step the FCS performs the step of that command. -/
theorem fcsStep_atStep {s : State} {c : Cmd} {st : SeqStep} (h : s.atStep c st) : fcsStep s = cmdStep c s :=
  fcsStep_running h.busy h.cmd_eq

theorem fcsStep_wren {v : Variant} {s : State} {c : Cmd} (h : s.atStep c .wren) (hl : legalStep v c .wren = true) :
    fcsStep s = s.run (bareFrame (fWren s)) fun _ t => t.gotoPoll .pollWel :=
  (fcsStep_atStep h).trans (cmdStep_wren hl h.step_eq)

theorem fcsStep_pollWel {v : Variant} {s : State} {c : Cmd} (h : s.atStep c .pollWel)
    (hl : legalStep v c .pollWel = true) :
    fcsStep s = s.poll .wel (if c = .writeEnable then State.finish .none else State.goto .main) :=
  (fcsStep_atStep h).trans (cmdStep_pollWel hl h.step_eq)

theorem fcsStep_pollWip {s : State} (h : s.atStep .waitReady .pollWip) :
    fcsStep s = s.poll .wip (State.finish .none) := by
  rw [fcsStep_atStep h]
  simp only [cmdStep, stepWaitReady, h.step_eq]

theorem fcsStep_reset_main {s : State} (h : s.atStep .reset .main) :
    fcsStep s = s.run (bareFrame (fRsten s)) fun _ t => t.goto .main2 := by
  rw [fcsStep_atStep h]
  simp only [cmdStep, stepReset, h.step_eq]

theorem fcsStep_reset_main2 {s : State} (h : s.atStep .reset .main2) :
    fcsStep s = s.run (bareFrame (fRst s)) fun _ t => t.deviceModeReset.finish .none := by
  rw [fcsStep_atStep h]
  simp only [cmdStep, stepReset, h.step_eq]

theorem fcsStep_readJedecId_main {s : State} (h : s.atStep .readJedecId .main) :
    fcsStep s = s.run (readFrame (fRdid s) 3) fun r t => t.identified r := by
  rw [fcsStep_atStep h]
  simp only [cmdStep, stepReadJedecId, h.step_eq]

theorem fcsStep_readStatus_main {s : State} (h : s.atStep .readStatus .main) :
    fcsStep s = s.run (readFrame (fRdsr s) 1) fun r t => (t.setSr (rbyte r 0)).finish .none := by
  rw [fcsStep_atStep h]
  simp only [cmdStep, stepReadStatus, h.step_eq]

/-- The frame that puts the device in quad mode, by variant (R175). -/
def quadFrame (s : State) : BusFrame :=
  match s.cfg.variant with
  | .A => sendFrame (fWrevcr s) [s.cfg.ops.evcrQuad]
  | .B => bareFrame (fEqio s)

theorem fcsStep_enableQuadIo_main {s : State} (h : s.atStep .enableQuadIo .main) :
    fcsStep s = s.run (quadFrame s) fun _ t => t.quadEnabled := by
  rw [fcsStep_atStep h]
  simp only [cmdStep, stepEnableQuadIo, h.step_eq, quadFrame]
  cases s.cfg.variant <;> rfl

theorem fcsStep_sectorErase_main {s : State} (h : s.atStep .sectorErase .main) :
    fcsStep s = s.run (bareFrame (fSe s)) fun _ t => t.finish .none := by
  rw [fcsStep_atStep h]
  simp only [cmdStep, stepSectorErase, stepMainBare, h.step_eq]

theorem fcsStep_pageProgram_main {s : State} (h : s.atStep .pageProgram .main) :
    fcsStep s = s.run (sendFrame (fPp s) (bufBytes s.seqbuf 0 s.fcs.seqlen.toNat)) fun _ t => t.finish .none := by
  rw [fcsStep_atStep h]
  simp only [cmdStep, stepPageProgram, h.step_eq]

theorem fcsStep_highSpeedRead_main {s : State} (h : s.atStep .highSpeedRead .main) :
    fcsStep s = s.run (readFrame (fRead s) s.fcs.seqlen.toNat) fun r t => (t.fillBuf r).finish .none := by
  rw [fcsStep_atStep h]
  simp only [cmdStep, stepHighSpeedRead, h.step_eq]

theorem fcsStep_setDummyCycles_main {s : State} (h : s.atStep .setDummyCycles .main) :
    fcsStep s = s.run (sendFrame (fWrvcr s) [vcrByte s]) fun _ t => t.finish .none := by
  rw [fcsStep_atStep h]
  simp only [cmdStep, stepSetDummyCycles, h.step_eq]

theorem fcsStep_enter4Byte_main {s : State} (h : s.atStep .enter4Byte .main) :
    fcsStep s = s.run (bareFrame (fEn4b s)) fun _ t => t.addrModeSet true := by
  rw [fcsStep_atStep h]
  simp only [cmdStep, stepEnter4Byte, h.step_eq]

theorem fcsStep_exit4Byte_main {s : State} (h : s.atStep .exit4Byte .main) :
    fcsStep s = s.run (bareFrame (fEx4b s)) fun _ t => t.addrModeSet false := by
  rw [fcsStep_atStep h]
  simp only [cmdStep, stepExit4Byte, h.step_eq]

/-- A step that a command does not have does nothing (notes/assumptions/20.md). Variant A has every step of every
command. -/
theorem cmdStep_of_not_legal {c : Cmd} {s : State} (h : legalStep .A c s.fcs.step = false) : cmdStep c s = s := by
  cases c <;> cases hst : s.fcs.step <;> rw [hst] at h <;>
    simp only [cmdStep, stepReset, stepReadJedecId, stepReadStatus, stepWriteEnable, stepEnableQuadIo, stepSectorErase,
      stepPageProgram, stepHighSpeedRead, stepWaitReady, stepSetDummyCycles, stepEnter4Byte, stepExit4Byte, hst] <;>
    cases h

/-! ## What a frame of the FCS and a poll can come to (R120, R153, R159) -/

/-- A frame of the FCS ends the command with BusTimeout, or is performed and the step goes on with the bytes read. -/
theorem run_elim {P : State → Prop} {s : State} {f : BusFrame} {k : List Byte → State → State}
    (htimeout : ∀ t : State, t.cfg = s.cfg → t.fcs = s.fcs → P (t.finish .busTimeout))
    (hperformed : s.busReady → ∀ (r : List Byte) (t : State), t.cfg = s.cfg →
      t.fcs = { s.fcs with rbytes := r } → P (k r t)) :
    P (s.run f k) := by
  unfold State.run
  split
  · exact htimeout s rfl rfl
  · rename_i hrun
    split
    · exact htimeout _ (by simp) (by simp)
    · rename_i hstall
      exact hperformed ⟨by simpa using hrun, by simpa using hstall⟩ _ _ (by simp) (by simp)

/-- A poll ends the command with BusTimeout, or counts a status byte and judges it. -/
theorem poll_elim {P : State → Prop} {s : State} {target : PollTarget} {next : State → State}
    (htimeout : ∀ t : State, t.cfg = s.cfg → t.fcs = s.fcs → P (t.finish .busTimeout))
    (hjudged : ∀ (r : List Byte) (t : State), t.cfg = s.cfg →
      t.fcs = { s.fcs with rbytes := r, seqsr := rbyte r 0, polls := s.fcs.polls + 1#32 } →
      P (t.judgePoll target next (rbyte r 0))) :
    P (s.poll target next) :=
  run_elim htimeout fun _ r t hcfg hfcs => hjudged r _ hcfg (by simp [hfcs])

/-- A poll goes on, ends the command because the budget is used up, or is to be made again. -/
theorem judgePoll_cases (target : PollTarget) (next : State → State) (sr : Byte) (s : State) :
    s.judgePoll target next sr = next s ∨ s.judgePoll target next sr = s.finish .deviceNotReady ∨
      (exhausted s.fcs s.clk = false ∧ s.judgePoll target next sr = s) := by
  unfold State.judgePoll
  split
  · exact .inl rfl
  · split
    · exact .inr (.inl rfl)
    · rename_i hleft
      exact .inr (.inr ⟨by simpa using hleft, rfl⟩)

/-- CHECK goes on to WREN or MAIN, whichever the command has, starts WAIT_READY's polls, or ends the command (R157). -/
theorem cmdStep_check_cases {c : Cmd} {s : State} (hst : s.fcs.step = .check) :
    (∃ st, (st = .wren ∨ st = .main) ∧
      (legalStep s.cfg.variant c .check = true → legalStep s.cfg.variant c st = true) ∧ cmdStep c s = s.goto st) ∨
    (c = .waitReady ∧ cmdStep c s = s.gotoPoll .pollWip) ∨ ∃ e, cmdStep c s = s.finish e := by
  cases c with
  | reset | readJedecId | readStatus =>
    exact .inl ⟨.main, .inr rfl, fun _ => rfl,
      by simp only [cmdStep, stepReset, stepReadJedecId, stepReadStatus, hst]⟩
  | writeEnable => exact .inl ⟨.wren, .inl rfl, fun _ => rfl, by simp only [cmdStep, stepWriteEnable, hst]⟩
  | setDummyCycles | enter4Byte | exit4Byte =>
    exact .inl ⟨.wren, .inl rfl, legalStep_wren_of_onlyA rfl,
      by simp only [cmdStep, stepSetDummyCycles, stepEnter4Byte, stepExit4Byte, hst]⟩
  | waitReady => exact .inr (.inl ⟨rfl, by simp only [cmdStep, stepWaitReady, hst]⟩)
  | enableQuadIo =>
    simp only [cmdStep, stepEnableQuadIo, hst]
    split
    · exact .inr (.inr ⟨_, rfl⟩)
    · cases hv : s.cfg.variant with
      | A => exact .inl ⟨.wren, .inl rfl, fun _ => rfl, rfl⟩
      | B => exact .inl ⟨.main, .inr rfl, fun _ => rfl, rfl⟩
  | sectorErase =>
    simp only [cmdStep, stepSectorErase, hst]
    split
    · exact .inl ⟨.wren, .inl rfl, fun _ => rfl, rfl⟩
    · exact .inr (.inr ⟨_, rfl⟩)
  | pageProgram =>
    simp only [cmdStep, stepPageProgram, hst]
    split
    · exact .inl ⟨.wren, .inl rfl, fun _ => rfl, rfl⟩
    · exact .inr (.inr ⟨_, rfl⟩)
  | highSpeedRead =>
    simp only [cmdStep, stepHighSpeedRead, hst]
    split
    · exact .inl ⟨.main, .inr rfl, fun _ => rfl, rfl⟩
    · exact .inr (.inr ⟨_, rfl⟩)

end Sys2Proof.Machine

/-! The writers of Device Mode (spec/41_sequencer.md R191). -/

namespace Sys2Proof.Machine

/-! ## Device Mode (R43, R44, R191) -/

/-- Device Mode: QUADACT and ADDR4 (R43, R44). -/
def State.deviceMode (s : State) : Bool × Bool := (s.fcs.quadact, s.fcs.addr4)

theorem deviceMode_eq_iff {s t : State} :
    t.deviceMode = s.deviceMode ↔ t.fcs.quadact = s.fcs.quadact ∧ t.fcs.addr4 = s.fcs.addr4 :=
  Prod.mk_inj

theorem deviceMode_of_fcs {s t : State} (h : t.fcs = s.fcs) : t.deviceMode = s.deviceMode := by
  rw [State.deviceMode, h, State.deviceMode]

/-! ### The host -/

theorem writeInstrframe_fcs (v : Word) (s : State) : (writeInstrframe v s).fcs = s.fcs := by
  obtain ⟨-, he⟩ | ⟨-, -, he⟩ | ⟨-, -, -, he⟩ | ⟨-, -, -, he⟩ := writeInstrframe_cases v s <;> rw [he]
  case inr.inr.inr =>
    unfold State.launch
    split <;> rfl
  all_goals rfl

theorem lastXfer_fcs (s : State) : s.lastXfer.fcs = s.fcs := by
  unfold State.lastXfer
  split
  case h_2 => split <;> rfl
  all_goals rfl

theorem busDeliver_fcs (f : BusFrame) (s : State) : (busDeliver f s).fcs = s.fcs := by
  unfold busDeliver
  split
  · rfl
  · exact State.perform_fcs f s

theorem startCommand_deviceMode (c : Cmd) (s : State) : (startCommand c s).deviceMode = s.deviceMode := by
  obtain ⟨-, he⟩ | ⟨-, -, he⟩ | ⟨-, -, -, he⟩ | ⟨-, -, -, he⟩ := startCommand_cases c s <;> rw [he] <;> rfl

/-- No instruction of the host and no frame from outside changes Device Mode, a software reset included. -/
theorem exec_deviceMode (i : Instr) (s : State) : ∃ t, exec i s = .next t ∧ t.deviceMode = s.deviceMode := by
  cases i with
  | bpeCmd d | bpeRegRead d | bpeMemRead d | bpeRegWrite d | bpeMemWrite d =>
    exact ⟨_, rfl, deviceMode_of_fcs (writeInstrframe_fcs _ s)⟩
  | bpeFrame v => exact ⟨_, rfl, deviceMode_of_fcs (writeInstrframe_fcs v s)⟩
  | bpeLastXfer en =>
    refine ⟨_, rfl, deviceMode_of_fcs ?_⟩
    split_ifs
    · rfl
    · rfl
    · exact lastXfer_fcs _
  | bpeEnable en =>
    refine ⟨_, rfl, deviceMode_of_fcs ?_⟩
    split <;> rfl
  | bpeSync | bpeSwrst | bpeClrFlag | bpeIntenSet | bpeIntenClr => exact ⟨_, rfl, rfl⟩
  | winRead n o =>
    refine ⟨_, rfl, deviceMode_of_fcs ?_⟩
    split
    · rfl
    · simp [State.windowRead]
  | winWrite n o v =>
    refine ⟨_, rfl, deviceMode_of_fcs ?_⟩
    split
    · rfl
    · simp [State.windowWrite]
  | seqReset | seqReadJedecId | seqReadStatus | seqWriteEnable | seqEnableQuadIo | seqSectorErase | seqPageProgram
  | seqHighSpeedRead | seqWaitReady | seqSetDummyCycles | seqEnter4Byte | seqExit4Byte =>
    exact ⟨_, rfl, startCommand_deviceMode _ s⟩
  | seqClrDone =>
    refine ⟨_, rfl, ?_⟩
    split <;> rfl
  | crcInit | crcSnoop | crcFeed8 | crcFeed16 | crcFeed32 | crcLoad | crcExpect => exact ⟨_, rfl, rfl⟩
  | crcResult r => cases r <;> exact ⟨_, rfl, rfl⟩
  | devWren | devRdsr | devRdid | devRdidQ | devSe | devPp | devRead111 | devRead112 | devRead114 | devRead122
  | devRead144 | devRsten | devRst | devEqio | devWrevcr | devWrvcr | devEn4b | devEx4b =>
    exact ⟨_, rfl, deviceMode_of_fcs (busDeliver_fcs _ s)⟩

theorem storeReg_deviceMode (r : WriteReg) (v : Word) (s : State) : (storeReg r v s).deviceMode = s.deviceMode := by
  cases r <;> rfl

theorem writeReg_deviceMode (r : WriteReg) (v : Word) (s : State) : (writeReg r v s).deviceMode = s.deviceMode := by
  have hstored : (storeReg r v s).accept.deviceMode = s.deviceMode := storeReg_deviceMode r v s
  cases r with
  | ctrlb | baud => exact hstored
  | instraddr | instrctrl =>
    rw [writeReg_frame (by simp)]
    split_ifs
    · rfl
    · rfl
    · exact hstored
  | seqaddr | seqlen | seqparam | seqbudget =>
    rw [writeReg_operand (by simp)]
    split
    · rfl
    · exact hstored

/-- No register access without a row of the table changes Device Mode. -/
theorem execPlain_deviceMode (p : PlainOp) (s : State) : (execPlain p s).deviceMode = s.deviceMode := by
  cases p with
  | readReg | seqstatusIdle => rfl
  | writeReg r v => exact writeReg_deviceMode r v s
  | readBuf | writeBuf =>
    simp only [execPlain, readBuf, writeBuf]
    split <;> rfl
  | reservedCmd =>
    simp only [execPlain, reservedCmd]
    split_ifs <;> rfl

/-- A power-on reset is the only input of the host that changes Device Mode; it makes it single and 24-bit. -/
theorem deliver_deviceMode {x : Fetched} {s t : State} (ht : deliver x s = .next t) :
    t.deviceMode = s.deviceMode ∨ (∃ d, x = .powerOn d) ∧ t.deviceMode = (false, false) := by
  cases x with
  | unmapped => cases ht
  | powerOn d =>
    cases ht
    exact .inr ⟨⟨d, rfl⟩, rfl⟩
  | decoded d =>
    left
    cases d with
    | instr i =>
      obtain ⟨u, hu, hmode⟩ := exec_deviceMode i s
      cases hu.symm.trans ht
      exact hmode
    | plain p =>
      cases ht
      exact execPlain_deviceMode p s
    | refused r =>
      cases ht
      rfl
    | unknownFrame f =>
      cases ht
      exact deviceMode_of_fcs (busDeliver_fcs f s)

/-- Only the power-on reset as an input is one when decoded. -/
theorem fetch_eq_powerOn {p : Params} {x : Input} {d : Bool} (h : fetch p x = .powerOn d) : x = .powerOn d := by
  cases x with
  | access a =>
    simp only [fetch] at h
    split at h <;> cases h
  | frame f => cases h
  | powerOn e =>
    cases h
    rfl

theorem hostStep_deviceMode {s t : State} (ht : hostStep s = .next t) :
    t.deviceMode = s.deviceMode ∨ (∃ d rest, s.inputs = .powerOn d :: rest) ∧ t.deviceMode = (false, false) := by
  unfold hostStep at ht
  split at ht
  · cases ht
    exact .inl rfl
  · rename_i x rest hx
    obtain hkept | ⟨⟨d, hd⟩, hreset⟩ := deliver_deviceMode ht
    · exact .inl hkept
    · exact .inr ⟨⟨d, rest, by rw [hx, fetch_eq_powerOn hd]⟩, hreset⟩

/-! ### The BPE and the device -/

theorem bpeStep_fcs (s : State) : (bpeStep s).fcs = s.fcs := by
  unfold bpeStep
  split_ifs <;> simp [State.completeFrame]

theorem devStep_fcs (s : State) : (devStep s).fcs = s.fcs := by
  unfold devStep
  split
  · rfl
  · split <;> simp

/-! ### The FCS -/

@[simp] theorem finish_deviceMode (e : ErrCode) (s : State) : (s.finish e).deviceMode = s.deviceMode := rfl

/-- A frame of the FCS keeps Device Mode where what follows it does. -/
theorem run_deviceMode {s : State} {f : BusFrame} {k : List Byte → State → State}
    (hk : ∀ r t, (k r t).deviceMode = t.deviceMode) : (s.run f k).deviceMode = s.deviceMode :=
  run_elim (P := fun u => u.deviceMode = s.deviceMode)
    (fun t _ hfcs => (finish_deviceMode _ t).trans (deviceMode_of_fcs hfcs))
    fun _ r t _ hfcs => (hk r t).trans (by rw [State.deviceMode, hfcs, State.deviceMode])

theorem judgePoll_deviceMode {target : PollTarget} {next : State → State} {sr : Byte} {s : State}
    (hnext : (next s).deviceMode = s.deviceMode) : (s.judgePoll target next sr).deviceMode = s.deviceMode := by
  obtain he | he | ⟨-, he⟩ := judgePoll_cases target next sr s <;> rw [he]
  · exact hnext
  · rfl

theorem poll_deviceMode {s : State} {target : PollTarget} {next : State → State}
    (hnext : ∀ t, (next t).deviceMode = t.deviceMode) : (s.poll target next).deviceMode = s.deviceMode :=
  run_deviceMode fun _ _ => judgePoll_deviceMode (hnext _)

/-- The last steps that write Device Mode, with what each gives (R165, R175, R189, R190). -/
def ModeWritten (s t : State) : Prop :=
  (s.atStep .enableQuadIo .main ∧ t.fcs.quadact = true ∧ t.fcs.addr4 = s.fcs.addr4) ∨
  (s.atStep .reset .main2 ∧ t.fcs.quadact = false ∧ t.fcs.addr4 = false) ∨
  (s.atStep .enter4Byte .main ∧ t.fcs.quadact = s.fcs.quadact ∧ t.fcs.addr4 = true) ∨
  (s.atStep .exit4Byte .main ∧ t.fcs.quadact = s.fcs.quadact ∧ t.fcs.addr4 = false)

/-- A step of the FCS keeps Device Mode, or a frame was performed, the command succeeded and it wrote Device Mode. -/
def ModeStep (s t : State) : Prop :=
  t.deviceMode = s.deviceMode ∨ (s.busReady ∧ t.fcs.err = .none ∧ ModeWritten s t)

/-- A frame of the FCS that does not end the command with BusTimeout may write Device Mode. -/
theorem run_modeStep {s : State} {f : BusFrame} {k : List Byte → State → State}
    (hk : ∀ r t, t.fcs.quadact = s.fcs.quadact → t.fcs.addr4 = s.fcs.addr4 →
      (k r t).fcs.err = .none ∧ ModeWritten s (k r t)) :
    ModeStep s (s.run f k) :=
  run_elim (fun t _ hfcs => .inl ((finish_deviceMode _ t).trans (deviceMode_of_fcs hfcs)))
    fun hbus r t _ hfcs => .inr ⟨hbus, hk r t (by rw [hfcs]) (by rw [hfcs])⟩

/-- MAIN writes Device Mode for ENABLE_QUAD_IO, ENTER_4BYTE and EXIT_4BYTE alone. -/
theorem main_modeStep {s : State} {c : Cmd} (h : s.atStep c .main) : ModeStep s (fcsStep s) := by
  cases c with
  | writeEnable | waitReady =>
    rw [fcsStep_atStep h, cmdStep_of_not_legal (by rw [h.step_eq]; rfl)]
    exact .inl rfl
  | reset => rw [fcsStep_reset_main h]; exact .inl (run_deviceMode fun _ _ => rfl)
  | readJedecId => rw [fcsStep_readJedecId_main h]; exact .inl (run_deviceMode fun _ _ => rfl)
  | readStatus => rw [fcsStep_readStatus_main h]; exact .inl (run_deviceMode fun _ _ => rfl)
  | sectorErase => rw [fcsStep_sectorErase_main h]; exact .inl (run_deviceMode fun _ _ => rfl)
  | pageProgram => rw [fcsStep_pageProgram_main h]; exact .inl (run_deviceMode fun _ _ => rfl)
  | highSpeedRead => rw [fcsStep_highSpeedRead_main h]; exact .inl (run_deviceMode fun _ _ => rfl)
  | setDummyCycles => rw [fcsStep_setDummyCycles_main h]; exact .inl (run_deviceMode fun _ _ => rfl)
  | enableQuadIo =>
    rw [fcsStep_enableQuadIo_main h]
    exact run_modeStep fun _ _ _ haddr => ⟨rfl, .inl ⟨h, rfl, haddr⟩⟩
  | enter4Byte =>
    rw [fcsStep_enter4Byte_main h]
    exact run_modeStep fun _ _ hquad _ => ⟨rfl, .inr (.inr (.inl ⟨h, hquad, rfl⟩))⟩
  | exit4Byte =>
    rw [fcsStep_exit4Byte_main h]
    exact run_modeStep fun _ _ hquad _ => ⟨rfl, .inr (.inr (.inr ⟨h, hquad, rfl⟩))⟩

/-- Of the other steps only RESET's MAIN2 writes Device Mode. -/
theorem atStep_modeStep {s : State} {c : Cmd} {st : SeqStep} (h : s.atStep c st) : ModeStep s (fcsStep s) := by
  cases hl : legalStep .A c st with
  | false =>
    rw [fcsStep_atStep h, cmdStep_of_not_legal (by rw [h.step_eq, hl])]
    exact .inl rfl
  | true =>
    cases st with
    | idle => simp [legalStep_idle] at hl
    | check =>
      rw [fcsStep_atStep h]
      obtain ⟨st, -, -, he⟩ | ⟨-, he⟩ | ⟨e, he⟩ := cmdStep_check_cases h.step_eq <;> rw [he] <;> exact .inl rfl
    | wren => rw [fcsStep_wren h hl]; exact .inl (run_deviceMode fun _ _ => rfl)
    | pollWel =>
      rw [fcsStep_pollWel h hl]
      refine .inl (poll_deviceMode fun t => ?_)
      split <;> rfl
    | main => exact main_modeStep h
    | main2 =>
      obtain rfl := eq_reset_of_main2 hl
      rw [fcsStep_reset_main2 h]
      exact run_modeStep fun _ _ _ _ => ⟨rfl, .inr (.inl ⟨h, rfl, rfl⟩)⟩
    | pollWip =>
      obtain rfl := eq_waitReady_of_pollWip hl
      rw [fcsStep_pollWip h]
      exact .inl (poll_deviceMode fun _ => rfl)

theorem fcsStep_modeStep (s : State) : ModeStep s (fcsStep s) := by
  cases hb : s.fcs.busy with
  | false =>
    rw [fcsStep_idle hb]
    exact .inl rfl
  | true =>
    cases hc : s.fcs.cmd with
    | none => exact .inl (by simp [fcsStep, hb, hc])
    | some c => exact atStep_modeStep ⟨hb, hc, rfl⟩

/-- The choice of the agent is no part of what Device Mode's writers look at. -/
theorem modeWritten_advance {s t : State} : ModeWritten s.advance t ↔ ModeWritten s t := by
  simp only [ModeWritten, State.atStep, State.advance_fcs]

/-- Settles O8: the host writes Device Mode by a power-on reset alone, the FCS by a successful last step, and no other
agent does. -/
theorem deviceModeWriters : Obligations.DeviceModeWriters := by
  intro s t ht
  have hadvance : s.advance.deviceMode = s.deviceMode := deviceMode_of_fcs s.advance_fcs
  have kept {u : State} (h : u.deviceMode = s.advance.deviceMode) :
      u.fcs.quadact = s.fcs.quadact ∧ u.fcs.addr4 = s.fcs.addr4 := deviceMode_eq_iff.1 (h.trans hadvance)
  unfold step at ht
  cases ha : s.nextAgent <;> rw [ha] at ht
  case host =>
    obtain hkept | ⟨hinput, hreset⟩ := hostStep_deviceMode ht
    · exact .inl (kept hkept)
    · rw [s.advance_inputs] at hinput
      exact .inr (.inr ⟨rfl, hinput, Prod.mk.inj hreset⟩)
  case fcs =>
    cases ht
    obtain hkept | ⟨hbus, herr, hwritten⟩ := fcsStep_modeStep s.advance
    · exact .inl (kept hkept)
    · exact .inr (.inl ⟨rfl, hbus, herr, modeWritten_advance.1 hwritten⟩)
  case bpe =>
    cases ht
    exact .inl (kept (deviceMode_of_fcs (bpeStep_fcs _)))
  case device =>
    cases ht
    exact .inl (kept (deviceMode_of_fcs (devStep_fcs _)))
  case clock =>
    cases ht
    exact .inl (kept rfl)

end Sys2Proof.Machine

/-! The steps of the commands: CHECK, the steps that send a frame, the polls (spec/41_sequencer.md R157 to R190). -/

namespace Sys2Proof.Machine

/-! ## CHECK (R157) -/

/-- The range fits the flash and, with 24-bit addresses, what they reach. -/
theorem inCapacity_iff {p : Params} {addr4 : Bool} {a n : Nat} :
    inCapacity p addr4 a n = true ↔ a + n ≤ p.capacity ∧ (addr4 = true ∨ a + n ≤ 2 ^ 24) := by
  simp [inCapacity]

theorem straddles_eq_false_iff {p : Params} {a n : Nat} :
    straddles p a n = false ↔ a % p.pageSize + n ≤ p.pageSize := by
  simp [straddles]

/-- SEQPARAM's WIDTH is the only one in quad mode, or one of those of single mode, and its option fits (R182). -/
theorem paramsOk_iff {quad : Bool} {c : Fcs} :
    paramsOk quad c = true ↔
      (if quad = true then (c.seqparam.extractLsb' 0 3).toNat = 6 else (c.seqparam.extractLsb' 0 3).toNat ≤ 4) ∧
      (c.seqparam.getLsbD 8 = true →
        2 ^ (c.seqparam.extractLsb' 9 2).toNat % (widthOf (c.seqparam.extractLsb' 0 3)).addrLanes = 0) := by
  have hsix : ∀ w : BitVec 3, (w == 6#3) = true ↔ w.toNat = 6 := by decide
  have hopt : (!c.paramOptEn || optionFits (widthOf c.paramWidth) c.paramOptLen) = true ↔ (c.paramOptEn = true →
      2 ^ c.paramOptLen.toNat % (widthOf c.paramWidth).addrLanes = 0) := by
    rw [Bool.or_eq_true, optionFits_iff, Bool.not_eq_true', ← Bool.not_eq_true]
    exact Decidable.imp_iff_not_or.symm
  unfold paramsOk
  rw [Bool.and_eq_true, hopt]
  cases quad with
  | false => exact and_congr_left' decide_eq_true_iff
  | true => exact and_congr_left' (hsix _)

/-! ### PAGE_PROGRAM's operands: length, capacity, straddle (R179, R180) -/

theorem checkProgram_length {p : Params} {c : Fcs} (h : c.seqlen.toNat < 1 ∨ p.pageSize < c.seqlen.toNat) :
    checkProgram p c = .invalidParameter := if_pos h

theorem checkProgram_capacity {p : Params} {c : Fcs} (h1 : 1 ≤ c.seqlen.toNat) (h2 : c.seqlen.toNat ≤ p.pageSize)
    (hc : inCapacity p c.addr4 c.seqaddr.toNat c.seqlen.toNat ≠ true) : checkProgram p c = .capacityExceeded :=
  (if_neg (by omega)).trans (if_pos (Bool.eq_false_iff.2 hc))

theorem checkProgram_inCapacity {p : Params} {c : Fcs} (h1 : 1 ≤ c.seqlen.toNat) (h2 : c.seqlen.toNat ≤ p.pageSize)
    (hc : inCapacity p c.addr4 c.seqaddr.toNat c.seqlen.toNat = true) :
    checkProgram p c = if straddles p c.seqaddr.toNat c.seqlen.toNat then .invalidParameter else .none :=
  (if_neg (by omega)).trans (if_neg (Bool.not_eq_false _ ▸ hc))

/-- What PAGE_PROGRAM's operand check accepts. -/
theorem checkProgram_eq_none {p : Params} {c : Fcs} (h : checkProgram p c = .none) :
    1 ≤ c.seqlen.toNat ∧ c.seqlen.toNat ≤ p.pageSize ∧
      inCapacity p c.addr4 c.seqaddr.toNat c.seqlen.toNat = true ∧
      c.seqaddr.toNat % p.pageSize + c.seqlen.toNat ≤ p.pageSize := by
  unfold checkProgram at h
  split_ifs at h with hlen hcap hstraddle
  exact ⟨by omega, by omega, by simpa using hcap, straddles_eq_false_iff.1 (by simpa using hstraddle)⟩

/-! ### HIGH_SPEED_READ's operands: length, capacity, parameters (R182, R183) -/

theorem checkRead_length {p : Params} {c : Fcs} (h : c.seqlen.toNat < 1 ∨ 256 < c.seqlen.toNat) :
    checkRead p c = .invalidParameter := if_pos h

theorem checkRead_capacity {p : Params} {c : Fcs} (h1 : 1 ≤ c.seqlen.toNat) (h2 : c.seqlen.toNat ≤ 256)
    (hc : inCapacity p c.addr4 c.seqaddr.toNat c.seqlen.toNat ≠ true) : checkRead p c = .capacityExceeded :=
  (if_neg (by omega)).trans (if_pos (Bool.eq_false_iff.2 hc))

theorem checkRead_inCapacity {p : Params} {c : Fcs} (h1 : 1 ≤ c.seqlen.toNat) (h2 : c.seqlen.toNat ≤ 256)
    (hc : inCapacity p c.addr4 c.seqaddr.toNat c.seqlen.toNat = true) :
    checkRead p c = if paramsOk c.quadact c = false then .invalidParameter else .none :=
  (if_neg (by omega)).trans (if_neg (Bool.not_eq_false _ ▸ hc))

/-- What HIGH_SPEED_READ's operand check accepts. -/
theorem checkRead_eq_none {p : Params} {c : Fcs} (h : checkRead p c = .none) :
    1 ≤ c.seqlen.toNat ∧ c.seqlen.toNat ≤ 256 ∧
      inCapacity p c.addr4 c.seqaddr.toNat c.seqlen.toNat = true ∧ paramsOk c.quadact c = true := by
  unfold checkRead at h
  split_ifs at h with hlen hcap hparams
  exact ⟨by omega, by omega, by simpa using hcap, by simpa using hparams⟩

/-! ### The step -/

theorem fcsStep_enableQuadIo_check_quad {s : State} (h : s.atStep .enableQuadIo .check) (hq : s.fcs.quadact = true) :
    fcsStep s = s.finish .none := by
  rw [fcsStep_atStep h]
  simp only [cmdStep, stepEnableQuadIo, h.step_eq]
  exact if_pos hq

/-- Where the device is to be put in quad mode, variant A needs the write-enable latch first (R175). -/
theorem fcsStep_enableQuadIo_check_single {s : State} (h : s.atStep .enableQuadIo .check)
    (hq : s.fcs.quadact = false) :
    fcsStep s = s.goto (if s.cfg.variant = .A then .wren else .main) := by
  rw [fcsStep_atStep h]
  simp only [cmdStep, stepEnableQuadIo, h.step_eq]
  rw [if_neg (by simp [hq])]
  cases s.cfg.variant <;> rfl

theorem fcsStep_sectorErase_check {s : State} (h : s.atStep .sectorErase .check) :
    fcsStep s = if inCapacity s.cfg s.fcs.addr4 s.fcs.seqaddr.toNat 1 then s.goto .wren
      else s.finish .capacityExceeded := by
  rw [fcsStep_atStep h]
  simp only [cmdStep, stepSectorErase, h.step_eq]

/-- PAGE_PROGRAM goes on with accepted operands and ends with the error of the check otherwise. -/
theorem fcsStep_pageProgram_check {s : State} {e : ErrCode} (h : s.atStep .pageProgram .check)
    (he : checkProgram s.cfg s.fcs = e) : fcsStep s = if e = .none then s.goto .wren else s.finish e := by
  rw [fcsStep_atStep h]
  simp only [cmdStep, stepPageProgram, h.step_eq, he]

/-- HIGH_SPEED_READ goes on with accepted operands and ends with the error of the check otherwise. -/
theorem fcsStep_highSpeedRead_check {s : State} {e : ErrCode} (h : s.atStep .highSpeedRead .check)
    (he : checkRead s.cfg s.fcs = e) : fcsStep s = if e = .none then s.goto .main else s.finish e := by
  rw [fcsStep_atStep h]
  simp only [cmdStep, stepHighSpeedRead, h.step_eq, he]

/-- Settles O33, from the CHECK step of each command and what its operand check says. -/
theorem fcsChecks : Obligations.FcsChecks := by
  intro s a n inCap w
  have hcap (m : Nat) : inCapacity s.cfg s.fcs.addr4 a m = true ↔ inCap m := inCapacity_iff
  refine ⟨?_, ?_, fun h => ?_, fun h => ⟨fun hq => ?_, fun hq hv => ?_, fun hq hv => ?_⟩,
    fun h => ⟨fun hc => ?_, fun hc => ?_⟩,
    fun h => ⟨fun hn => ?_, fun h1 h2 hc => ?_, fun h1 h2 hc hp => ?_, fun h1 h2 hc hp => ?_⟩,
    fun h => ⟨fun hn => ?_, fun h1 h2 hc => ?_, fun h1 h2 hc hp => ?_, fun h1 h2 hc hp => ?_⟩⟩
  · rintro c (rfl | rfl | rfl) h <;> rw [fcsStep_atStep h] <;>
      simp only [cmdStep, stepReset, stepReadJedecId, stepReadStatus, h.step_eq] <;> rfl
  · rintro c (rfl | rfl | rfl | rfl) h <;> rw [fcsStep_atStep h] <;>
      simp only [cmdStep, stepWriteEnable, stepSetDummyCycles, stepEnter4Byte, stepExit4Byte, h.step_eq] <;> rfl
  · rw [fcsStep_atStep h]
    simp only [cmdStep, stepWaitReady, h.step_eq]
    rfl
  · exact fcsStep_enableQuadIo_check_quad h hq
  · rw [fcsStep_enableQuadIo_check_single h hq, hv]
    rfl
  · rw [fcsStep_enableQuadIo_check_single h hq, hv]
    rfl
  · rw [fcsStep_sectorErase_check h, if_pos ((hcap 1).2 hc)]
    rfl
  · rw [fcsStep_sectorErase_check h, if_neg ((hcap 1).not.2 hc)]
  · exact fcsStep_pageProgram_check h (checkProgram_length hn)
  · exact fcsStep_pageProgram_check h (checkProgram_capacity h1 h2 ((hcap n).not.2 hc))
  · exact fcsStep_pageProgram_check h ((checkProgram_inCapacity h1 h2 ((hcap n).2 hc)).trans
      (if_pos (decide_eq_true hp)))
  · exact fcsStep_pageProgram_check h ((checkProgram_inCapacity h1 h2 ((hcap n).2 hc)).trans
      (if_neg (Bool.eq_false_iff.1 (straddles_eq_false_iff.2 hp))))
  · exact fcsStep_highSpeedRead_check h (checkRead_length hn)
  · exact fcsStep_highSpeedRead_check h (checkRead_capacity h1 h2 ((hcap n).not.2 hc))
  · exact fcsStep_highSpeedRead_check h ((checkRead_inCapacity h1 h2 ((hcap n).2 hc)).trans
      (if_pos (Bool.eq_false_iff.2 (paramsOk_iff.not.2 hp))))
  · exact fcsStep_highSpeedRead_check h ((checkRead_inCapacity h1 h2 ((hcap n).2 hc)).trans
      (if_neg (Bool.not_eq_false _ ▸ paramsOk_iff.2 hp)))

end Sys2Proof.Machine

namespace Sys2Proof.Machine

/-! ## The steps that send a frame (R158, R165 to R190) -/

/-- A frame of the FCS that is performed: the step goes on with the state the frame leaves, which holds the bytes. -/
theorem run_busReady (f : BusFrame) (k : List Byte → State → State) {s : State} (h : s.busReady) :
    s.run f k = k (s.drawStall.2.fcsPerform f).fcs.rbytes (s.drawStall.2.fcsPerform f) := by
  rw [run_performed f k h, State.fcsPerform_fcs]

/-- Polls begin at the time the clock shows (R158). -/
theorem gotoPoll_eq {st : SeqStep} {now : Word} {s : State} (h : s.clk = now) :
    s.gotoPoll st = { s with fcs := { s.fcs with step := st, polls := 0#32, t0 := now } } := by
  subst h
  rfl

/-- SEQID holds the identity bytes, the first lowest (R41). -/
theorem idWord_append (i : JedecId) : idWord i = 0#8 ++ i.capid ++ i.typ ++ i.mfr := by
  have hword : (0#8 ++ i.capid ++ i.typ ++ i.mfr).setWidth 32 = 0#8 ++ i.capid ++ i.typ ++ i.mfr :=
    BitVec.setWidth_eq (n := 32) _
  rw [← hword, setWidth_append_word, setWidth_append_word, setWidth_append_word]
  simp only [idWord, BitVec.shiftLeft_or_distrib, ← BitVec.shiftLeft_add, BitVec.or_assoc, Nat.reduceAdd,
    BitVec.setWidth_zero, BitVec.zero_shiftLeft, BitVec.or_zero]

theorem idKnown_iff {p : Params} {i : JedecId} : idKnown p i = true ↔ i = p.jedecA ∨ i = p.jedecB := by
  simp [idKnown]

/-- The identity's bytes are stored, and the command succeeds where a profile has them (R167). -/
theorem identified_eq (r : List Byte) {p : Params} {s : State} (hp : s.cfg = p) : s.identified r = State.finish
    (if idOf r = p.jedecA ∨ idOf r = p.jedecB then .none else .unsupported)
    { s with fcs := { s.fcs with seqid := 0#8 ++ rbyte r 2 ++ rbyte r 1 ++ rbyte r 0 } } := by
  subst hp
  simp only [State.identified, idKnown_iff, idWord_append]
  rfl

/-- The data byte of F_WRVCR is the dummy count above the low nibble (R155). -/
theorem vcrByte_eq (s : State) : vcrByte s = s.fcs.seqparam.extractLsb' 4 4 ++ s.cfg.ops.vcrLow := by
  have hnibbles : ∀ x y : BitVec 4, x.setWidth 8 <<< 4 ||| y.setWidth 8 = x ++ y := by decide
  exact hnibbles _ _

/-- Settles O34, from the frame and the bookkeeping of each step. -/
theorem fcsFrameSteps : Obligations.FcsFrameSteps := by
  intro s hbus sent sentWith got byte
  refine ⟨fun c hl h => ?_, fun h => ?_, fun h => ?_, fun h => ?_, fun h => ?_, fun h => ?_, fun h => ?_, fun h => ?_,
    fun h => ?_, fun h => ?_, fun h => ?_, fun h => ?_⟩
  · rw [fcsStep_wren h hl, run_busReady _ _ hbus, gotoPoll_eq (now := s.clk) (by simp)]
  · rw [fcsStep_reset_main h, run_busReady _ _ hbus]; rfl
  · rw [fcsStep_reset_main2 h, run_busReady _ _ hbus]; rfl
  · rw [fcsStep_readJedecId_main h, run_busReady _ _ hbus, identified_eq (p := s.cfg) _ (by simp)]
    rfl
  · rw [fcsStep_readStatus_main h, run_busReady _ _ hbus]; rfl
  · rw [fcsStep_enableQuadIo_main h, run_busReady _ _ hbus, quadFrame]
    cases s.cfg.variant <;> rfl
  · rw [fcsStep_sectorErase_main h, run_busReady _ _ hbus]
  · rw [fcsStep_pageProgram_main h, run_busReady _ _ hbus]
  · rw [fcsStep_highSpeedRead_main h, run_busReady _ _ hbus]; rfl
  · rw [fcsStep_setDummyCycles_main h, run_busReady _ _ hbus, vcrByte_eq]
  · rw [fcsStep_enter4Byte_main h, run_busReady _ _ hbus]; rfl
  · rw [fcsStep_exit4Byte_main h, run_busReady _ _ hbus]; rfl

/-! ## The polls (R159, R160) -/

/-- A poll that is performed reads a status byte, counts it and judges it. -/
theorem poll_busReady (target : PollTarget) (next : State → State) {s : State} (h : s.busReady) :
    s.poll target next =
      let t := s.drawStall.2.fcsPerform (readFrame (fRdsr s) 1)
      (t.countPoll (rbyte t.fcs.rbytes 0)).judgePoll target next (rbyte t.fcs.rbytes 0) :=
  run_busReady _ _ h

/-- The budget is used up: enough milliseconds since the polls began, or enough polls (R160). -/
theorem exhausted_iff {c : Fcs} {clk : Word} :
    exhausted c clk = true ↔ if c.budgetMs = true then c.budgetValue ≤ (clk - c.t0).toNat
      else max c.budgetValue 1 ≤ c.polls.toNat := by
  unfold exhausted
  split <;> exact decide_eq_true_iff

/-- Which polls a command makes, and what follows their success (R158, R171, R185). -/
theorem fcsStep_poll {v : Variant} {s : State} {c : Cmd} {st : SeqStep} (h : s.atStep c st)
    (hl : legalStep v c st = true) (hst : st = .pollWel ∨ st = .pollWip) :
    fcsStep s = s.poll (if st = .pollWel then .wel else .wip)
      (if c = .writeEnable ∨ c = .waitReady then State.finish .none else State.goto .main) := by
  obtain rfl | rfl := hst
  · have hc : c ≠ .waitReady := by
      rintro rfl
      cases hl
    simp only [fcsStep_pollWel h hl, hc, or_false, if_true]
  · obtain rfl := eq_waitReady_of_pollWip hl
    exact fcsStep_pollWip h

/-- Settles O35, from what a poll does with the status byte it reads. -/
theorem pollStep : Obligations.PollStep := by
  intro s c st hbus h hl hst t sr u value usedUp ok
  have htarget : PollTarget.reached u.cfg sr (if st = .pollWel then .wel else .wip) = ok := by
    obtain rfl | rfl := hst <;> simp [PollTarget.reached, ok, u, t]
  have hused : exhausted u.fcs u.clk = true ↔ usedUp := by
    rw [exhausted_iff]
    simp [usedUp, value, u, t, Fcs.budgetMs, Fcs.budgetValue]
  have hcount : t.countPoll sr = u := by simp [State.countPoll, u, t]
  have hstep : fcsStep s = u.judgePoll (if st = .pollWel then .wel else .wip)
      (if c = .writeEnable ∨ c = .waitReady then State.finish .none else State.goto .main) sr := by
    rw [fcsStep_poll h hl hst, poll_busReady _ _ hbus, ← hcount]
    rfl
  rw [hstep]
  unfold State.judgePoll
  refine ⟨fun hok => ?_, fun hok hdone => ?_, fun hok hleft => ?_⟩
  · rw [if_pos (htarget.trans hok)]
    split <;> rfl
  · rw [if_neg (Bool.eq_false_iff.1 (htarget.trans hok)), if_pos (hused.2 hdone)]
  · rw [if_neg (Bool.eq_false_iff.1 (htarget.trans hok)), if_neg (hused.not.2 hleft)]

end Sys2Proof.Machine

/-! The bound on the steps of a command whose budget counts polls (spec/41_sequencer.md R161, R194). -/

namespace Sys2Proof.Machine

/-! ## The steps that a command has left (R161) -/

/-- The most polls that a budget of polls allows (R160). -/
def Fcs.pollBudget (c : Fcs) : Nat := max c.budgetValue 1

/-- The most steps that a command has left, with a budget that counts polls. -/
def Fcs.stepsLeft (c : Fcs) : Nat :=
  match c.step with
  | .idle => 0
  | .check => 3 + c.pollBudget
  | .wren => 2 + c.pollBudget
  | .pollWel => 1 + (c.pollBudget - c.polls.toNat)
  | .main => if c.cmd = some .reset then 2 else 1
  | .main2 => 1
  | .pollWip => c.pollBudget - c.polls.toNat

/-- A command with a budget that counts polls is on its way: it is at one of its steps, and where it polls it has polls
left. -/
structure State.OnWay (s : State) : Prop where
  busy : s.fcs.busy = true
  legal : s.fcs.commandLegal s.cfg.variant = true
  countsPolls : s.fcs.budgetMs = false
  pollsLeft : s.fcs.step = .pollWel ∨ s.fcs.step = .pollWip → s.fcs.polls.toNat < s.fcs.pollBudget

/-- A step ends the command, or leaves it on its way with fewer steps left. -/
def Advances (s t : State) : Prop :=
  t.fcs.busy = false ∨ (t.OnWay ∧ t.fcs.stepsLeft < s.fcs.stepsLeft)

theorem Fcs.one_le_pollBudget (c : Fcs) : 1 ≤ c.pollBudget := le_max_right _ _

/-- The number of polls never wraps: VALUE has 24 bits (R38). -/
theorem Fcs.pollBudget_lt (c : Fcs) : c.pollBudget < 2 ^ 24 := by
  have hvalue : c.budgetValue < 2 ^ 24 := (c.seqbudget.extractLsb' 0 24).isLt
  rw [Fcs.pollBudget]
  omega

theorem Fcs.stepsLeft_main {c : Fcs} (h : c.step = .main) (hc : c.cmd ≠ some .reset) : c.stepsLeft = 1 := by
  rw [Fcs.stepsLeft, h]
  exact if_neg hc

theorem Fcs.stepsLeft_main_le {c : Fcs} (h : c.step = .main) : c.stepsLeft ≤ 2 := by
  rw [Fcs.stepsLeft, h]
  dsimp only
  split <;> omega

namespace State.OnWay

theorem exists_atStep {s : State} (h : s.OnWay) :
    ∃ c, s.atStep c s.fcs.step ∧ legalStep s.cfg.variant c s.fcs.step = true := by
  have hl := h.legal
  unfold Fcs.commandLegal at hl
  split at hl
  · cases hl
  · exact ⟨_, ⟨h.busy, ‹_›, rfl⟩, hl⟩

/-- What runs between the steps of the FCS does not touch its registers (R161). -/
theorem congr {s t : State} (h : s.OnWay) (hfcs : t.fcs = s.fcs) (hcfg : t.cfg = s.cfg) : t.OnWay := by
  refine ⟨?_, ?_, ?_, ?_⟩
  · rw [hfcs]; exact h.busy
  · rw [hfcs, hcfg]; exact h.legal
  · rw [hfcs]; exact h.countsPolls
  · rw [hfcs]; exact h.pollsLeft

/-- A command on its way has a step left. -/
theorem stepsLeft_pos {s : State} (h : s.OnWay) : 0 < s.fcs.stepsLeft := by
  obtain ⟨c, -, hl⟩ := h.exists_atStep
  have hpolls := h.pollsLeft
  cases hst : s.fcs.step <;> simp only [Fcs.stepsLeft, hst]
  case idle => simp [hst, legalStep_idle] at hl
  case main => split <;> omega
  case pollWip =>
    have := hpolls (.inr hst)
    omega
  all_goals omega

end State.OnWay

namespace State.OnWay

/-- The command goes on at one of its steps, with its budget; what does the step says how many steps are left. -/
theorem advances {s t : State} {c : Cmd} {st : SeqStep} (h : s.OnWay) (ha : s.atStep c st)
    (hkeep : (t.cfg, t.fcs.busy, t.fcs.cmd, t.fcs.seqbudget) = (s.cfg, s.fcs.busy, s.fcs.cmd, s.fcs.seqbudget))
    (hl : legalStep s.cfg.variant c t.fcs.step = true)
    (hpolls : t.fcs.step = .pollWel ∨ t.fcs.step = .pollWip → t.fcs.polls.toNat < t.fcs.pollBudget)
    (hless : t.fcs.stepsLeft < s.fcs.stepsLeft) : Advances s t := by
  simp only [Prod.mk.injEq] at hkeep
  obtain ⟨hcfg, hbusy, hcmd, hbudget⟩ := hkeep
  refine .inr ⟨⟨hbusy.trans h.busy, ?_, ?_, hpolls⟩, hless⟩
  · rw [Fcs.commandLegal, hcmd, ha.cmd_eq, hcfg]
    exact hl
  · rw [Fcs.budgetMs, hbudget]
    exact h.countsPolls

/-- A frame after which the command ends, whether it is performed or not. -/
theorem run_ends {s : State} {f : BusFrame} {k : List Byte → State → State}
    (hk : ∀ r t, (k r t).fcs.busy = false) : Advances s (s.run f k) :=
  run_elim (fun _ _ _ => .inl rfl) fun _ r t _ _ => .inl (hk r t)

theorem check_advances {s : State} {c : Cmd} (h : s.OnWay) (ha : s.atStep c .check)
    (hl : legalStep s.cfg.variant c .check = true) : Advances s (fcsStep s) := by
  have hpos := s.fcs.one_le_pollBudget
  have hleft : s.fcs.stepsLeft = 3 + s.fcs.pollBudget := by rw [Fcs.stepsLeft, ha.step_eq]
  rw [fcsStep_atStep ha]
  obtain ⟨st, hst, hlegal, he⟩ | ⟨rfl, he⟩ | ⟨e, he⟩ := cmdStep_check_cases (c := c) ha.step_eq <;> rw [he]
  · refine h.advances ha rfl (hlegal hl) ?_ ?_
    · obtain rfl | rfl := hst <;> simp
    · rw [hleft]
      obtain rfl | rfl := hst
      · exact Nat.add_lt_add_right (by decide) _
      · exact (Fcs.stepsLeft_main_le rfl).trans_lt (by omega)
  · refine h.advances ha rfl rfl (fun _ => hpos) ?_
    rw [hleft]
    exact Nat.lt_add_of_pos_left (by decide)
  · exact .inl rfl

theorem wren_advances {s : State} {c : Cmd} (h : s.OnWay) (ha : s.atStep c .wren)
    (hl : legalStep s.cfg.variant c .wren = true) : Advances s (fcsStep s) := by
  rw [fcsStep_wren ha hl]
  refine run_elim (fun _ _ _ => .inl rfl) fun _ r t hcfg hfcs => ?_
  have hbudget : t.fcs.pollBudget = s.fcs.pollBudget := by rw [hfcs]; rfl
  refine h.advances ha (by simp [hcfg, hfcs]) (legalStep_pollWel_of_wren hl) (fun _ => t.fcs.one_le_pollBudget) ?_
  calc (t.gotoPoll .pollWel).fcs.stepsLeft = 1 + t.fcs.pollBudget := rfl
    _ < 2 + s.fcs.pollBudget := by omega
    _ = s.fcs.stepsLeft := by rw [Fcs.stepsLeft, ha.step_eq]

/-- A poll that is to be made again leaves one poll less; `next` is what follows one that shows the awaited bit. -/
theorem poll_advances {s : State} {c : Cmd} {st : SeqStep} {target : PollTarget} {next : State → State} (h : s.OnWay)
    (ha : s.atStep c st) (hl : legalStep s.cfg.variant c st = true) (hst : st = .pollWel ∨ st = .pollWip)
    (hnext : ∀ t : State, (t.cfg, t.fcs.busy, t.fcs.cmd, t.fcs.seqbudget) =
      (s.cfg, s.fcs.busy, s.fcs.cmd, s.fcs.seqbudget) → Advances s (next t)) :
    Advances s (s.poll target next) := by
  refine poll_elim (fun _ _ _ => .inl rfl) fun r t hcfg hfcs => ?_
  have hkeep : (t.cfg, t.fcs.busy, t.fcs.cmd, t.fcs.seqbudget) =
      (s.cfg, s.fcs.busy, s.fcs.cmd, s.fcs.seqbudget) := by simp [hcfg, hfcs]
  obtain he | he | ⟨hmore, he⟩ := judgePoll_cases target next (rbyte r 0) t <;> rw [he]
  · exact hnext t hkeep
  · exact .inl rfl
  · have hstep : t.fcs.step = st := by rw [hfcs]; exact ha.step_eq
    have hbudget : t.fcs.pollBudget = s.fcs.pollBudget := by rw [hfcs]; rfl
    have hleft := h.pollsLeft (by rw [ha.step_eq]; exact hst)
    have hcount : t.fcs.polls.toNat = s.fcs.polls.toNat + 1 := by
      have := s.fcs.pollBudget_lt
      rw [hfcs]
      exact BitVec.toNat_add_of_lt (by simp; omega)
    have hagain : t.fcs.polls.toNat < t.fcs.pollBudget := by
      have hms : t.fcs.budgetMs = false := by rw [hfcs]; exact h.countsPolls
      exact not_le.1 fun hle => Bool.eq_false_iff.1 hmore (exhausted_iff.2 (by rw [hms]; exact hle))
    refine h.advances ha hkeep (by rw [hstep]; exact hl) (fun _ => hagain) ?_
    obtain rfl | rfl := hst <;> simp only [Fcs.stepsLeft, hstep, ha.step_eq] <;> omega

theorem pollWel_advances {s : State} {c : Cmd} (h : s.OnWay) (ha : s.atStep c .pollWel)
    (hl : legalStep s.cfg.variant c .pollWel = true) : Advances s (fcsStep s) := by
  rw [fcsStep_pollWel ha hl]
  refine h.poll_advances ha hl (.inl rfl) fun t hkeep => ?_
  split
  · exact .inl rfl
  · rename_i hc
    have hreset : t.fcs.cmd ≠ some .reset := by
      simp only [Prod.mk.injEq] at hkeep
      obtain ⟨-, -, hcmd, -⟩ := hkeep
      rw [hcmd, ha.cmd_eq]
      rintro ⟨⟩
      cases hl
    have hmore := h.pollsLeft (.inl ha.step_eq)
    have hleft : s.fcs.stepsLeft = 1 + (s.fcs.pollBudget - s.fcs.polls.toNat) := by rw [Fcs.stepsLeft, ha.step_eq]
    refine h.advances ha hkeep (legalStep_main_of_pollWel hc hl) (by simp) ?_
    rw [Fcs.stepsLeft_main rfl (by exact hreset), hleft]
    omega

/-- MAIN ends every command but RESET, which goes on to MAIN2. -/
theorem main_advances {s : State} {c : Cmd} (h : s.OnWay) (ha : s.atStep c .main)
    (hl : legalStep s.cfg.variant c .main = true) : Advances s (fcsStep s) := by
  cases c with
  | writeEnable | waitReady => cases hl
  | reset =>
    rw [fcsStep_reset_main ha]
    refine run_elim (fun _ _ _ => .inl rfl) fun _ r t hcfg hfcs => ?_
    refine h.advances ha (by simp [hcfg, hfcs]) rfl (by simp) ?_
    simp [Fcs.stepsLeft, ha.cmd_eq, ha.step_eq]
  | readJedecId => rw [fcsStep_readJedecId_main ha]; exact run_ends fun _ _ => rfl
  | readStatus => rw [fcsStep_readStatus_main ha]; exact run_ends fun _ _ => rfl
  | enableQuadIo => rw [fcsStep_enableQuadIo_main ha]; exact run_ends fun _ _ => rfl
  | sectorErase => rw [fcsStep_sectorErase_main ha]; exact run_ends fun _ _ => rfl
  | pageProgram => rw [fcsStep_pageProgram_main ha]; exact run_ends fun _ _ => rfl
  | highSpeedRead => rw [fcsStep_highSpeedRead_main ha]; exact run_ends fun _ _ => rfl
  | setDummyCycles => rw [fcsStep_setDummyCycles_main ha]; exact run_ends fun _ _ => rfl
  | enter4Byte => rw [fcsStep_enter4Byte_main ha]; exact run_ends fun _ _ => rfl
  | exit4Byte => rw [fcsStep_exit4Byte_main ha]; exact run_ends fun _ _ => rfl

/-- Every step of a command on its way ends it or leaves fewer steps (R194). -/
theorem fcsStep_advances {s : State} (h : s.OnWay) : Advances s (fcsStep s) := by
  obtain ⟨c, ha, hl⟩ := h.exists_atStep
  generalize s.fcs.step = st at ha hl
  cases st with
  | idle => simp [legalStep_idle] at hl
  | check => exact h.check_advances ha hl
  | wren => exact h.wren_advances ha hl
  | pollWel => exact h.pollWel_advances ha hl
  | main => exact h.main_advances ha hl
  | main2 =>
    obtain rfl := eq_reset_of_main2 hl
    rw [fcsStep_reset_main2 ha]
    exact run_ends fun _ _ => rfl
  | pollWip =>
    obtain rfl := eq_waitReady_of_pollWip hl
    rw [fcsStep_pollWip ha]
    exact h.poll_advances ha hl (.inr rfl) fun _ _ => .inl rfl

/-- After `k` steps the command has ended, or it is on its way with `k` steps fewer left. -/
theorem fcsRun_ends_or_onWay {env : Nat → State → State}
    (henv : ∀ k u, (env k u).fcs = u.fcs ∧ (env k u).cfg = u.cfg) {s : State} (h : s.OnWay) (k : Nat) :
    (∃ j ≤ k, (fcsRun env j s).fcs.busy = false) ∨
      ((fcsRun env k s).OnWay ∧ (fcsRun env k s).fcs.stepsLeft + k ≤ s.fcs.stepsLeft) := by
  induction k with
  | zero => exact .inr ⟨h, le_rfl⟩
  | succ k ih =>
    obtain ⟨j, hj, hended⟩ | ⟨hway, hleft⟩ := ih
    · exact .inl ⟨j, by omega, hended⟩
    · obtain ⟨hfcs, hcfg⟩ := henv k (fcsRun env k s)
      obtain hended | ⟨hnext, hless⟩ := (hway.congr hfcs hcfg).fcsStep_advances
      · exact .inl ⟨k + 1, le_rfl, hended⟩
      · rw [hfcs] at hless
        refine .inr ⟨hnext, ?_⟩
        rw [fcsRun]
        omega

end State.OnWay

/-- Settles O36: from CHECK there are 3 steps and the polls of the budget left, and every step leaves fewer. -/
theorem commandTerminates : Obligations.CommandTerminates := by
  intro env s c henv ha hl hms
  have hway : s.OnWay := by
    refine ⟨ha.busy, ?_, hms, fun hpoll => ?_⟩
    · simpa [Fcs.commandLegal, ha.cmd_eq, ha.step_eq] using hl
    · simp [ha.step_eq] at hpoll
  have hleft : s.fcs.stepsLeft = 3 + max s.fcs.budgetValue 1 := by rw [Fcs.stepsLeft, ha.step_eq]; rfl
  obtain hended | ⟨hstill, hnone⟩ := hway.fcsRun_ends_or_onWay henv s.fcs.stepsLeft
  · rwa [hleft] at hended
  · have := hstill.stepsLeft_pos
    omega

end Sys2Proof.Machine

/-! The FCS's frames at a matched device: how the device decodes them and what it makes of them
(spec/42_flash_commands.md R211 to R225). -/

namespace Sys2Proof.Machine

/-! ## The opcodes of the device (R200, R213) -/

/-- The rows that both variants and both modes decode, with their opcodes. -/
def commonRows (t : OpTable) : List (Byte × DevOp) :=
  [(t.wren, .wren), (t.rdsr, .rdsr), (t.se, .se), (t.pp, .pp), (t.rsten, .rsten), (t.rst, .rst)]

/-- The rows of one mode. -/
def modeRows (t : OpTable) (quad : Bool) : List (Byte × DevOp) :=
  if quad then [(t.rdidQ, .rdid), (t.read444, .read .w444)]
  else [(t.rdid, .rdid), (t.read111, .read .w111), (t.read112, .read .w112), (t.read114, .read .w114),
    (t.read122, .read .w122), (t.read144, .read .w144)]

/-- The rows of one variant; the two that enter quad mode are decoded in single mode alone. -/
def variantRows (t : OpTable) (v : Variant) (quad : Bool) : List (Byte × DevOp) :=
  match v with
  | .B => if quad then [] else [(t.eqio, .eqio)]
  | .A => (if quad then [] else [(t.wrevcr, .wrevcr)]) ++ [(t.wrvcr, .wrvcr), (t.en4b, .en4b), (t.ex4b, .ex4b)]

/-- The rows of R213 that a device decodes in its mode, in the order it looks them up. -/
def devRows (p : Params) (quad : Bool) : List (Byte × DevOp) :=
  commonRows p.devOps ++ (modeRows p.devOps quad ++ variantRows p.devOps p.devVariant quad)

theorem lookup_cons_eq_ite {α : Type} (k : Byte) (a : α) (rows : List (Byte × α)) (op : Byte) :
    ((k, a) :: rows).lookup op = if op = k then some a else rows.lookup op := by
  by_cases h : op = k <;> simp [List.lookup_cons, h, beq_eq_false_iff_ne.2]

theorem lookupCommon_eq_lookup (t : OpTable) (op : Byte) : lookupCommon t op = (commonRows t).lookup op := by
  simp only [lookupCommon, commonRows, lookup_cons_eq_ite, List.lookup_nil]

theorem lookupMode_eq_lookup (t : OpTable) (quad : Bool) (op : Byte) :
    lookupMode t quad op = (modeRows t quad).lookup op := by
  cases quad <;> simp [lookupMode, modeRows, lookup_cons_eq_ite]

theorem lookupVariant_eq_lookup (t : OpTable) (v : Variant) (quad : Bool) (op : Byte) :
    lookupVariant t v quad op = (variantRows t v quad).lookup op := by
  cases v <;> cases quad <;> simp [lookupVariant, variantRows, lookup_cons_eq_ite]

/-- The device looks an opcode up in its rows. -/
theorem devLookup_eq_lookup (p : Params) (quad : Bool) (op : Byte) :
    devLookup p quad op = (devRows p quad).lookup op := by
  simp only [devLookup, devRows, List.lookup_append, lookupCommon_eq_lookup, lookupMode_eq_lookup,
    lookupVariant_eq_lookup, Option.orElse_eq_or]

/-- A selection of different places of a list without repetition has none either. -/
theorem nodup_map_get {α : Type} {l : List α} {n : Nat} (hl : l.Nodup) (hn : n = l.length) {places : List (Fin n)}
    (h : places.Nodup) : (places.map fun i => l.get (i.cast hn)).Nodup :=
  h.map ((List.nodup_iff_injective_get.1 hl).comp (Fin.cast_injective hn))

/-- The rows' opcodes are distinct (R200): each is another place of the table, with OP_READ(6) in quad mode in the
place of OP_READ(0). -/
theorem devRows_opcodes_nodup {p : Params} (hp : OpTable.wf p.devOps) (quad : Bool) :
    ((devRows p quad).map Prod.fst).Nodup := by
  have hbytes := (busRows_opcodes_perm p.devOps (cmdWidth quad)).nodup_iff.1 (busRows_opcodes_nodup hp _)
  unfold devRows
  cases p.devVariant <;> cases quad
  · exact nodup_map_get (n := 18) hbytes rfl (places := [5, 4, 6, 7, 0, 1, 2, 8, 9, 10, 11, 12, 14, 15, 16, 17])
      (by decide)
  · exact nodup_map_get (n := 18) hbytes rfl (places := [5, 4, 6, 7, 0, 1, 3, 8, 15, 16, 17]) (by decide)
  · exact nodup_map_get (n := 18) hbytes rfl (places := [5, 4, 6, 7, 0, 1, 2, 8, 9, 10, 11, 12, 13]) (by decide)
  · exact nodup_map_get (n := 18) hbytes rfl (places := [5, 4, 6, 7, 0, 1, 3, 8]) (by decide)

/-- The device decodes the opcode of each of its rows as that row. -/
theorem devLookup_of_mem {p : Params} (hp : OpTable.wf p.devOps) {quad : Bool} {op : Byte} {o : DevOp}
    (h : (op, o) ∈ devRows p quad) : devLookup p quad op = some o :=
  (devLookup_eq_lookup p quad op).trans (lookup_eq_some_of_mem (devRows_opcodes_nodup hp quad) h)

theorem devLookup_common {p : Params} (hp : OpTable.wf p.devOps) (quad : Bool) {op : Byte} {o : DevOp}
    (h : (op, o) ∈ commonRows p.devOps) : devLookup p quad op = some o :=
  devLookup_of_mem hp (List.mem_append_left _ h)

theorem devLookup_variant {p : Params} (hp : OpTable.wf p.devOps) {quad : Bool} {op : Byte} {o : DevOp}
    (h : (op, o) ∈ variantRows p.devOps p.devVariant quad) : devLookup p quad op = some o :=
  devLookup_of_mem hp (List.mem_append_right _ (List.mem_append_right _ h))

/-- A device decodes the array reads of the widths its mode has (R216). -/
theorem devLookup_read {p : Params} (hp : OpTable.wf p.devOps) {quad : Bool} {w : WidthCode} {op : Byte}
    (hw : if quad then w = .w444 else w ≠ .w444) (hop : p.devOps.read w = some op) :
    devLookup p quad op = some (.read w) := by
  refine devLookup_of_mem hp (List.mem_append_right _ (List.mem_append_left _ ?_))
  cases quad with
  | true =>
    obtain rfl : w = .w444 := hw
    cases hop
    simp [modeRows]
  | false =>
    cases w with
    | w222 => cases hop
    | w444 => exact absurd rfl hw
    | _ => cases hop; simp [modeRows]

/-! ## Whole frames (R120, R211, R212) -/

/-- An idle device plans a frame at its own command width by the row of the opcode. -/
theorem devPlan_eq_opPlan {p : Params} {d : Dev} {f : Frame} {o : DevOp} (hlanes : f.width.cmdLanes = d.lanes)
    (hidle : d.pending = none) (ho : devLookup p d.qpi f.instr = some o) : devPlan p d f = opPlan p d f o := by
  simp [devPlan, hlanes, Dev.busy, hidle, ho]

/-- The command width of the device's mode is its own. -/
theorem cmdWidth_cmdLanes (d : Dev) : (cmdWidth d.qpi).cmdLanes = d.lanes := by
  unfold Dev.lanes
  cases d.qpi <;> rfl

/-- The machine while the device holds a frame. -/
def State.holding (c : InFlight) (s : State) : State := { s with dev := { s.dev with cur := some c } }

theorem devData_bare {f : Frame} (hk : f.kind = .cmd) (s : State) :
    s.devData (bareFrame f) = s.holding { frame := f, plan := devPlan s.cfg s.dev f, sent := 0, recv := [] } := by
  simp only [State.devData, bareFrame, hk]
  rfl

theorem devData_send {f : Frame} (hk : f.kind.isWrite = true) (l : List Byte) (s : State) :
    s.devData (sendFrame f l) = s.holding { frame := f, plan := devPlan s.cfg s.dev f, sent := 0, recv := l } := by
  have hread : f.kind.isRead = false := by
    revert hk
    cases f.kind <;> decide
  simp only [State.devData, sendFrame, hread, hk]
  rfl

/-- Every byte read uses up a draw. -/
theorem devData_read {f : Frame} (hk : f.kind.isRead = true) (n : Nat) (s : State) :
    s.devData (readFrame f n) =
      { s.holding { frame := f, plan := devPlan s.cfg s.dev f, sent := n, recv := [] } with draws := s.draws + n } := by
  simp only [State.devData, readFrame, hk, if_true, devSentN_eq]
  simp [State.devBegin, State.holding]

/-- A sector erase with the latch set makes the device busy (R217). -/
theorem perform_erase {f : Frame} {a : Nat} {s : State} (hk : f.kind = .cmd)
    (hp : devPlan s.cfg s.dev f = .erase a) (hw : s.dev.wel = true) :
    s.perform (bareFrame f) =
      { s with dev := { s.dev.afterFrame with pending := some (.erase (a % s.cfg.capacity / s.cfg.sectorSize)) } } := by
  rw [State.perform, devData_bare hk, devEnd_dev rfl]
  simp [State.devEffect, hp, InFlight.moved, InFlight.isRsten, startErase, State.holding, hw, Dev.afterFrame]

/-- A page program of at least one byte with the latch set makes the device busy (R218). -/
theorem perform_program {f : Frame} {a : Nat} {l : List Byte} {s : State} (hk : f.kind.isWrite = true)
    (hp : devPlan s.cfg s.dev f = .program a) (hw : s.dev.wel = true) (hl : l ≠ []) :
    s.perform (sendFrame f l) =
      { s with dev := { s.dev.afterFrame with pending := some (.program (programPairs s.cfg a l)) } } := by
  rw [State.perform, devData_send hk, devEnd_dev rfl]
  simp [State.devEffect, hp, InFlight.isRsten, startProgram, State.holding, hw, hl, Dev.afterFrame]

/-- A variant-B device enters quad mode (R224). -/
theorem perform_eqio {f : Frame} {s : State} (hk : f.kind = .cmd) (hp : devPlan s.cfg s.dev f = .eqio) :
    s.perform (bareFrame f) = { s with dev := { s.dev.afterFrame with qpi := true } } := by
  rw [State.perform, devData_bare hk, devEnd_dev rfl]
  simp [State.devEffect, hp, InFlight.moved, InFlight.isRsten, State.holding, Dev.afterFrame]

/-- A variant-A device with the latch set enters quad mode where the byte written to its configuration selects it
(R225). -/
theorem perform_wrevcr {f : Frame} {e : Byte} {s : State} (hk : f.kind.isWrite = true)
    (hp : devPlan s.cfg s.dev f = .wrevcr) (hw : s.dev.wel = true) (he : e = s.cfg.devOps.evcrQuad)
    (hq : e ∈ s.cfg.quadEvcr) :
    s.perform (sendFrame f [e]) = { s with dev := { s.dev.afterFrame with wel := false, qpi := true } } := by
  subst he
  rw [State.perform, devData_send hk, devEnd_dev rfl]
  simp [State.devEffect, hp, State.devWrevcr, InFlight.isRsten, State.holding, hw, hq, Dev.afterFrame]

/-- An array read leaves the device as it was but for the reset-enable record (R216). -/
theorem perform_array {f : Frame} {a : Nat} {s : State} (hk : f.kind.isRead = true)
    (hp : devPlan s.cfg s.dev f = .array a) (n : Nat) :
    s.perform (readFrame f n) = { s with dev := s.dev.afterFrame, draws := s.draws + n } := by
  rw [State.perform, devData_read hk, devEnd_dev rfl]
  simp [State.devEffect, hp, InFlight.isRsten, State.holding, Dev.afterFrame]

/-- The bytes of an array read are those from its address on, modulo CAPACITY (R216). -/
theorem devBytes_array {a : Nat} (n : Nat) {s : State} {c : InFlight} (hc : s.dev.cur = some c)
    (hp : c.plan = .array a) :
    s.devBytes n = (List.range n).map fun k => flashRead s.dev.arr ((a + (c.sent + k)) % s.cfg.capacity) := by
  induction n generalizing s c with
  | zero => rfl
  | succ n ih =>
    have hnext : s.devSent.dev.cur = some { c with sent := c.sent + 1 } := by simp [hc]
    rw [State.devBytes, ih hnext hp, List.range_succ_eq_map, List.map_cons, List.map_map]
    congr 1
    · simp [State.devByte, hc, planByte, hp]
    · simp [Function.comp_def, Nat.add_assoc, Nat.add_comm 1]

theorem frameBytes_array {f : Frame} {a : Nat} {s : State} (hk : f.kind.isRead = true)
    (hp : devPlan s.cfg s.dev f = .array a) (n : Nat) :
    s.frameBytes (readFrame f n) = (List.range n).map fun k => flashRead s.dev.arr ((a + k) % s.cfg.capacity) := by
  simp only [State.frameBytes, readFrame, hk, if_true]
  rw [devBytes_array n (c := { frame := f, plan := devPlan s.cfg s.dev f, sent := 0, recv := [] }) rfl hp]
  simp

/-- An FCS frame that reads nothing is fed to no CRC, and leaves the received bytes empty (notes/assumptions/28.md). -/
theorem fcsPerform_of_not_read {f : BusFrame} (hk : f.frame.kind.isRead = false) (s : State) :
    s.fcsPerform f = { s.perform f with fcs := { s.fcs with rbytes := [] } } := by
  have hkind : f.frame.kind ≠ .memRead := by
    intro h
    rw [h] at hk
    cases hk
  simp only [State.fcsPerform, snoopBytes_eq, State.frameBytes, hk, hkind, false_and, if_false, Bool.false_eq_true]

end Sys2Proof.Machine

namespace Sys2Proof.Machine

/-! ## The commands at a matched device (R177, R179, R183, R175, R232) -/

/-- An address that the address phase can carry is sent whole (R89, R156). -/
theorem sentAddr_eq {f : FrameShape} (h : f.addr32 = true ∨ f.addr.toNat < 2 ^ 24) : f.sentAddr = f.addr.toNat := by
  unfold FrameShape.sentAddr
  split
  · rfl
  · exact Nat.mod_eq_of_lt (h.resolve_left ‹_›)

namespace State.matched

/-- A matched idle device decodes the frame of the FCS's command width that has the opcode of one of its rows. -/
theorem devPlan_eq {s : State} (hm : s.matched) (hidle : s.dev.pending = none) {f : Frame} {o : DevOp}
    (hwidth : f.width.cmdLanes = (cmdWidth s.fcs.quadact).cmdLanes)
    (ho : devLookup s.cfg s.fcs.quadact f.instr = some o) : devPlan s.cfg s.dev f = opPlan s.cfg s.dev f o := by
  have hquad := hm.modes.1
  rw [hquad] at hwidth ho
  exact devPlan_eq_opPlan (hwidth.trans (cmdWidth_cmdLanes s.dev)) hidle ho

/-- F_SE has the shape of its row on a matched device. -/
theorem devPlan_fSe {s : State} (hm : s.matched) (hwf : OpTable.wf s.cfg.devOps) (hidle : s.dev.pending = none)
    (haddr : s.fcs.addr4 = true ∨ s.fcs.seqaddr.toNat < 2 ^ 24) :
    devPlan s.cfg s.dev (fSe s) = .erase s.fcs.seqaddr.toNat := by
  have hrow : devLookup s.cfg s.fcs.quadact (fSe s).instr = some .se :=
    devLookup_common hwf _ (by simp [commonRows, fSe, addressFrame, hm.ops])
  have hshape : commandShape s.dev true 0#4 (fSe s) = true := by
    simp [commandShape, fSe, addressFrame, hm.modes.1, hm.modes.2]
  rw [hm.devPlan_eq hidle rfl hrow, opPlan, if_pos hshape]
  exact congrArg DevPlan.erase (sentAddr_eq haddr)

/-- F_PP has the shape of its row on a matched device. -/
theorem devPlan_fPp {s : State} (hm : s.matched) (hwf : OpTable.wf s.cfg.devOps) (hidle : s.dev.pending = none)
    (haddr : s.fcs.addr4 = true ∨ s.fcs.seqaddr.toNat < 2 ^ 24) :
    devPlan s.cfg s.dev (fPp s) = .program s.fcs.seqaddr.toNat := by
  have hrow : devLookup s.cfg s.fcs.quadact (fPp s).instr = some .pp :=
    devLookup_common hwf _ (by simp [commonRows, fPp, addressFrame, hm.ops])
  have hshape : (commandShape s.dev true 0#4 (fPp s) && (fPp s).kind.isWrite) = true := by
    simp [commandShape, fPp, addressFrame, hm.modes.1, hm.modes.2, Kind.isWrite]
  rw [hm.devPlan_eq hidle rfl hrow, opPlan, if_pos hshape]
  exact congrArg DevPlan.program (sentAddr_eq haddr)

/-- F_EQIO has the shape of its row on a matched variant-B device in single mode. -/
theorem devPlan_fEqio {s : State} (hm : s.matched) (hwf : OpTable.wf s.cfg.devOps) (hidle : s.dev.pending = none)
    (hquad : s.fcs.quadact = false) (hv : s.cfg.variant = .B) : devPlan s.cfg s.dev (fEqio s) = .eqio := by
  have hrow : devLookup s.cfg s.fcs.quadact (fEqio s).instr = some .eqio :=
    devLookup_variant hwf (by simp [variantRows, hm.variant, hv, hquad, fEqio, opcodeFrame, hm.ops])
  have hshape : commandShape s.dev false 0#4 (fEqio s) = true := by
    simp [commandShape, fEqio, opcodeFrame, ← hm.modes.1, hquad, cmdWidth]
  rw [hm.devPlan_eq hidle (by rw [hquad]; rfl) hrow, opPlan, if_pos hshape]

/-- F_WREVCR has the shape of its row on a matched variant-A device in single mode. -/
theorem devPlan_fWrevcr {s : State} (hm : s.matched) (hwf : OpTable.wf s.cfg.devOps) (hidle : s.dev.pending = none)
    (hquad : s.fcs.quadact = false) (hv : s.cfg.variant = .A) : devPlan s.cfg s.dev (fWrevcr s) = .wrevcr := by
  have hrow : devLookup s.cfg s.fcs.quadact (fWrevcr s).instr = some .wrevcr :=
    devLookup_variant hwf (by simp [variantRows, hm.variant, hv, hquad, fWrevcr, opcodeFrame, hm.ops])
  have hshape : (commandShape s.dev false 0#4 (fWrevcr s) && (fWrevcr s).kind.isWrite) = true := by
    simp [commandShape, fWrevcr, opcodeFrame, ← hm.modes.1, hquad, cmdWidth, Kind.isWrite]
  rw [hm.devPlan_eq hidle (by rw [hquad]; rfl) hrow, opPlan, if_pos hshape]

end State.matched

/-! ### SECTOR_ERASE -/

/-- Settles O37: F_SE is performed, and the device takes it as an erase of the sector. -/
theorem eraseCommandErases : Obligations.EraseCommandErases := by
  intro s hm hwf hbus h ⟨_, hidle⟩ hwel hcap haddr
  have hplan : devPlan s.cfg s.dev (fSe s) = .erase s.fcs.seqaddr.toNat := hm.devPlan_fSe hwf hidle haddr
  have hmod : s.fcs.seqaddr.toNat % s.cfg.capacity = s.fcs.seqaddr.toNat := Nat.mod_eq_of_lt hcap
  rw [fcsStep_sectorErase_main h, run_busReady _ _ hbus, fcsPerform_of_not_read rfl,
    perform_erase rfl (by simpa using hplan) (by simpa using hwel), finishRule]
  simp [hmod]

/-! ### PAGE_PROGRAM -/

/-- Inside one page, byte `k` of the data is destined for the address `k` further on (R218). -/
theorem programPairs_inPage {p : Params} {a : Nat} {l : List Byte} (ha : a < p.capacity)
    (hpage : a % p.pageSize + l.length ≤ p.pageSize) : programPairs p a l = l.zipIdx.map fun x => (a + x.2, x.1) := by
  have hskip : l.length - p.pageSize = 0 := by omega
  unfold programPairs pageBase
  simp only [hskip, List.drop_zero, Nat.mod_eq_of_lt ha]
  refine List.map_congr_left fun x hx => ?_
  have hindex : x.2 < l.length := by simpa using (List.mem_zipIdx hx).2.1
  have hbase : a % p.pageSize ≤ a := Nat.mod_le _ _
  rw [Nat.mod_eq_of_lt (a := a % p.pageSize + x.2) (by omega)]
  congr 1
  omega

/-- Settles O38: F_PP is performed, and the device takes it as a program of SEQBUF's bytes inside one page. -/
theorem programCommandPrograms : Obligations.ProgramCommandPrograms := by
  intro s hm hwf hbus h ⟨_, hidle⟩ hwel hlen hcheck
  obtain ⟨hpos, hfits, hcap, hpage⟩ := checkProgram_eq_none hcheck
  obtain ⟨hend, haddr⟩ := inCapacity_iff.1 hcap
  have hplan : devPlan s.cfg s.dev (fPp s) = .program s.fcs.seqaddr.toNat :=
    hm.devPlan_fPp hwf hidle (haddr.imp_right (by omega))
  have hpairs : programPairs s.cfg s.fcs.seqaddr.toNat (bufBytes s.seqbuf 0 s.fcs.seqlen.toNat) =
      (List.range s.fcs.seqlen.toNat).map fun k => (s.fcs.seqaddr.toNat + k, bufGet s.seqbuf k) := by
    rw [programPairs_inPage (by omega) (by simpa using hpage)]
    exact List.ext_getElem (by simp) fun k _ _ => by simp [bufBytes]
  have hdata : bufBytes s.seqbuf 0 s.fcs.seqlen.toNat ≠ [] :=
    List.ne_nil_of_length_pos (by rwa [bufBytes_length])
  rw [fcsStep_pageProgram_main h, run_busReady _ _ hbus, fcsPerform_of_not_read rfl,
    perform_program rfl (by simpa using hplan) (by simpa using hwel) hdata, finishRule]
  simp [hpairs]

/-! ### HIGH_SPEED_READ -/

/-- The width that accepted parameters name has an array read in the command width of Device Mode (R181, R182). -/
theorem paramsOk_width {c : Fcs} {quad : Bool} (h : paramsOk quad c = true) (t : OpTable) :
    (if quad = true then widthOf c.paramWidth = .w444 else widthOf c.paramWidth ≠ .w444) ∧
      (widthOf c.paramWidth).cmdLanes = (cmdWidth quad).cmdLanes ∧
      ∃ op, t.read (widthOf c.paramWidth) = some op := by
  have hwidth := (paramsOk_iff.1 h).1
  have hsix : ∀ w : BitVec 3, w.toNat = 6 → w = 6#3 := by decide
  have hfour : ∀ w : BitVec 3, w.toNat ≤ 4 → w = 0#3 ∨ w = 1#3 ∨ w = 2#3 ∨ w = 3#3 ∨ w = 4#3 := by decide
  cases quad with
  | true =>
    have hw : c.paramWidth = 6#3 := hsix _ hwidth
    rw [hw]
    exact ⟨rfl, rfl, _, rfl⟩
  | false =>
    have hw : c.paramWidth = 0#3 ∨ c.paramWidth = 1#3 ∨ c.paramWidth = 2#3 ∨ c.paramWidth = 3#3 ∨
        c.paramWidth = 4#3 := hfour _ hwidth
    obtain hw | hw | hw | hw | hw := hw <;> rw [hw] <;> exact ⟨nofun, rfl, _, rfl⟩

theorem State.matched.devPlan_fRead {s : State} (hm : s.matched) (hwf : OpTable.wf s.cfg.devOps)
    (hidle : s.dev.pending = none) (haddr : s.fcs.addr4 = true ∨ s.fcs.seqaddr.toNat < 2 ^ 24)
    (hparams : paramsOk s.fcs.quadact s.fcs = true)
    (hsafe : s.fcs.seqparam.getLsbD 8 = true → safeOption s.cfg (fRead s) = true)
    (hcycles : turnaround (fRead s) = devReadCycles s.cfg (fRead s).width s.dev.dcfg) :
    devPlan s.cfg s.dev (fRead s) = .array s.fcs.seqaddr.toNat := by
  obtain ⟨hmode, hlanes, op, hop⟩ := paramsOk_width hparams s.cfg.devOps
  have hrow : devLookup s.cfg s.fcs.quadact (fRead s).instr = some (.read (widthOf s.fcs.paramWidth)) :=
    devLookup_read hwf hmode (by simp [fRead, ← hm.ops, hop])
  have hshape : (fRead s).width = widthOf s.fcs.paramWidth ∧ (fRead s).addrEn = true ∧
      (fRead s).addr32 = s.dev.addr4 ∧ (fRead s).kind.isRead = true := ⟨rfl, rfl, hm.modes.2, rfl⟩
  have hcount : turnaround (fRead s) = devReadCycles s.cfg (widthOf s.fcs.paramWidth) s.dev.dcfg := hcycles
  have hopt : ¬ ((fRead s).optEn = true ∧ safeOption s.cfg (fRead s) = false) := by
    rintro ⟨hen, hunsafe⟩
    rw [hsafe hen] at hunsafe
    cases hunsafe
  rw [hm.devPlan_eq hidle hlanes hrow, opPlan, readPlan, if_pos hshape, if_neg hopt, if_pos hcount]
  exact congrArg DevPlan.array (sentAddr_eq haddr)

/-- Settles O39: F_READ is performed, and the device supplies the array's bytes. -/
theorem readCommandReads : Obligations.ReadCommandReads := by
  intro s hm hwf hbus h ⟨_, hidle⟩ hcheck hsafe hcycles data
  obtain ⟨hpos, hlen, hcap, hparams⟩ := checkRead_eq_none hcheck
  obtain ⟨hend, haddr⟩ := inCapacity_iff.1 hcap
  have hplan : devPlan s.drawStall.2.cfg s.drawStall.2.dev (fRead s) = .array s.fcs.seqaddr.toNat := by
    simpa using hm.devPlan_fRead hwf hidle (haddr.imp_right (by omega)) hparams hsafe hcycles
  have hbytes : s.drawStall.2.frameBytes (readFrame (fRead s) s.fcs.seqlen.toNat) = data := by
    rw [frameBytes_array rfl hplan]
    refine List.map_congr_left fun k hk => ?_
    have hk : k < s.fcs.seqlen.toNat := List.mem_range.1 hk
    rw [State.drawStall_cfg, State.drawStall_dev, Nat.mod_eq_of_lt (by omega)]
  have hkind : (readFrame (fRead s) s.fcs.seqlen.toNat).frame.kind = .memRead := rfl
  rw [fcsStep_highSpeedRead_main h, run_performed _ _ hbus, hbytes, State.fcsPerform, hbytes, perform_array rfl hplan,
    snoopBytes_eq, finishRule, hkind]
  refine ⟨by simp [State.fillBuf], by simp [State.fillBuf], fun k hk => ?_, ?_, by simp [State.fillBuf]⟩
  · have hlength : data.length = s.fcs.seqlen.toNat := by simp [data]
    have hbuf : bufGet (bufSet s.seqbuf 0 data) k = if k < s.fcs.seqlen.toNat
        then flashRead s.dev.arr (s.fcs.seqaddr.toNat + k) else bufGet s.seqbuf k := by
      split
      · rename_i hin
        rw [← Nat.zero_add k, bufGet_bufSet_inside _ (by omega) (by omega), Nat.zero_add]
        simp [data, hin]
      · exact bufGet_bufSet_outside _ _ (by omega)
    simpa [State.fillBuf] using hbuf
  · simp [State.fillBuf, Crc.feed]

/-! ### ENABLE_QUAD_IO -/

/-- Settles O40: the variant's frame is performed, and puts the device in quad mode. -/
theorem quadEnableKeepsModes : Obligations.QuadEnableKeepsModes := by
  intro s hm hwf hbus h ⟨_, hidle⟩ hquad hA
  have haddr := hm.modes.2
  rw [fcsStep_enableQuadIo_main h, run_busReady _ _ hbus, quadFrame]
  cases hv : s.cfg.variant with
  | A =>
    obtain ⟨hwel, hevcr⟩ := hA hv
    have hplan : devPlan s.cfg s.dev (fWrevcr s) = .wrevcr := hm.devPlan_fWrevcr hwf hidle hquad hv
    dsimp only
    rw [fcsPerform_of_not_read rfl, perform_wrevcr rfl (by simpa using hplan) (by simpa using hwel)
      (by simp [hm.ops]) (by simpa using hevcr), State.quadEnabled, finishRule]
    exact ⟨rfl, rfl, ⟨rfl, by simpa [Dev.afterFrame] using haddr⟩, rfl, rfl, by simp [Dev.afterFrame]⟩
  | B =>
    have hplan : devPlan s.cfg s.dev (fEqio s) = .eqio := hm.devPlan_fEqio hwf hidle hquad hv
    dsimp only
    rw [fcsPerform_of_not_read rfl, perform_eqio rfl (by simpa using hplan), State.quadEnabled, finishRule]
    exact ⟨rfl, rfl, ⟨rfl, by simpa [Dev.afterFrame] using haddr⟩, rfl, rfl, by simp [Dev.afterFrame]⟩

end Sys2Proof.Machine

/-! The device's answer to a whole frame from outside the QFE, and the statements of spec/42_flash_commands.md that rest
on it. -/

namespace Sys2Proof

/-! ## A whole frame at the device (R120, R211) -/

/-- How many bytes a whole frame reads from the device. -/
def BusFrame.readCount (f : BusFrame) : Nat := if f.frame.kind.isRead then f.nIn else 0

/-- The bytes a whole frame sends to the device. -/
def BusFrame.sentBytes (f : BusFrame) : List Byte := if f.frame.kind.isWrite then f.out else []

/-- A frame with this plan, as the device holds it at its end. -/
def BusFrame.held (f : BusFrame) (p : Machine.DevPlan) : Machine.InFlight :=
  { frame := f.frame, plan := p, sent := f.readCount, recv := f.sentBytes }

end Sys2Proof

namespace Sys2Proof.Machine

theorem isWrite_eq_false_of_isRead {k : Kind} (h : k.isRead = true) : k.isWrite = false := by
  revert h
  cases k <;> decide

theorem isRead_eq_false_of_isWrite {k : Kind} (h : k.isWrite = true) : k.isRead = false := by
  revert h
  cases k <;> decide

theorem readCount_of_write {f : BusFrame} (h : f.frame.kind.isWrite = true) : f.readCount = 0 :=
  if_neg (by simp [isRead_eq_false_of_isWrite h])

theorem sentBytes_of_write {f : BusFrame} (h : f.frame.kind.isWrite = true) : f.sentBytes = f.out := if_pos h

/-- The data bytes that a frame moves go one way. -/
theorem held_moved (f : BusFrame) (p : DevPlan) :
    (f.held p).moved =
      if f.frame.kind.isRead then f.nIn else if f.frame.kind.isWrite then f.out.length else 0 := by
  cases h : f.frame.kind <;>
    simp [BusFrame.held, InFlight.moved, BusFrame.readCount, BusFrame.sentBytes, h, Kind.isRead, Kind.isWrite]

/-- At the end of a whole frame the device holds it, and every byte read has used up a draw. -/
theorem devData_eq (f : BusFrame) (s : State) :
    s.devData f =
      { s.holding (f.held (devPlan s.cfg s.dev f.frame)) with draws := s.draws + f.readCount } := by
  by_cases hr : f.frame.kind.isRead = true
  · simp [State.devData, hr, isWrite_eq_false_of_isRead hr, devSentN_eq, BusFrame.held, BusFrame.readCount,
      BusFrame.sentBytes, State.holding, State.devBegin]
  · by_cases hw : f.frame.kind.isWrite = true <;>
      simp [State.devData, hr, hw, BusFrame.held, BusFrame.readCount, BusFrame.sentBytes, State.holding,
        State.devBegin, State.devTake]

/-- What a byte is does not depend on how far the frame on the bus has come. -/
theorem planByte_withCur (p : Params) (d : Dev) (c : Option InFlight) (k : Nat) (free : Byte) (plan : DevPlan) :
    planByte p { d with cur := c } k free plan = planByte p d k free plan := by
  cases plan <;> rfl

/-- Byte `k` of a frame's next bytes is that of the frame's plan, with a draw of its own. -/
theorem devBytes_eq (n : Nat) {s : State} {c : InFlight} (hc : s.dev.cur = some c) :
    s.devBytes n = (List.range n).map fun k =>
      planByte s.cfg s.dev (c.sent + k) (Config.freeByte (s.draws + k) 0) c.plan := by
  induction n generalizing s c with
  | zero => rfl
  | succ n ih =>
    have hnext : s.devSent.dev.cur = some { c with sent := c.sent + 1 } := by simp [hc]
    rw [State.devBytes, ih hnext, List.range_succ_eq_map, List.map_cons, List.map_map]
    congr 1
    · simp [State.devByte, hc]
    · refine List.map_congr_left fun k _ => ?_
      rw [State.devSent_dev, planByte_withCur, State.devSent_draws, Function.comp_apply, Nat.add_right_comm s.draws,
        Nat.add_right_comm c.sent]
      rfl

/-- The bytes that a whole frame reads. -/
theorem frameBytes_eq (f : BusFrame) (s : State) :
    s.frameBytes f = (List.range f.readCount).map fun k =>
      planByte s.cfg s.dev k (Config.freeByte (s.draws + k) 0) (devPlan s.cfg s.dev f.frame) := by
  unfold State.frameBytes BusFrame.readCount
  split
  · rw [devBytes_eq f.nIn
      (c := { frame := f.frame, plan := devPlan s.cfg s.dev f.frame, sent := 0, recv := [] }) rfl]
    simp only [Nat.zero_add, State.devBegin_dev, planByte_withCur]
    rfl
  · rfl

theorem frameBytes_length (f : BusFrame) (s : State) : (s.frameBytes f).length = f.readCount := by
  simp [frameBytes_eq]

/-- With chip select free a frame from outside has its plan's effect, and then chip select rises (R211). -/
theorem busDeliver_eq {f : BusFrame} {s : State} {p : DevPlan} (hcs : s.bpe.csact = false)
    (hp : devPlan s.cfg s.dev f.frame = p) :
    busDeliver f s = { (s.devData f).devEffect (f.held p) with
      dev := { ((s.devData f).devEffect (f.held p)).dev with rsten := (f.held p).isRsten, cur := none }
      resp := .bytes (s.frameBytes f) } := by
  subst hp
  have hcur : (s.devData f).dev.cur = some (f.held (devPlan s.cfg s.dev f.frame)) := by rw [devData_eq]; rfl
  simp only [busDeliver, hcs, Bool.false_eq_true, if_false, State.perform, devEnd_dev hcur]

/-! ## What a frame can come to (R211, R212) -/

/-- A frame without an effect of its own changes nothing but the reset-enable record and the draws. -/
theorem busDeliver_unchanged {f : BusFrame} {s : State} {p : DevPlan} (hcs : s.bpe.csact = false)
    (hp : devPlan s.cfg s.dev f.frame = p) (heff : (s.devData f).devEffect (f.held p) = s.devData f)
    (hr : (f.held p).isRsten = false) :
    busDeliver f s =
      { s with dev := s.dev.afterFrame, draws := s.draws + f.readCount, resp := .bytes (s.frameBytes f) } := by
  rw [busDeliver_eq hcs hp, heff, hr, devData_eq]
  rfl

/-- A frame that the device takes wrongly leaves it arbitrary, with the draw after those of its bytes. -/
theorem busDeliver_havoc {f : BusFrame} {s : State} {p : DevPlan} (hcs : s.bpe.csact = false)
    (hp : devPlan s.cfg s.dev f.frame = p) (heff : (s.devData f).devEffect (f.held p) = (s.devData f).havoc)
    (hr : (f.held p).isRsten = false) :
    busDeliver f s = { s with
      dev := { s.dev.arbitrary s.cfg (s.draws + f.readCount) with rsten := false, cur := none }
      draws := s.draws + f.readCount + 1
      resp := .bytes (s.frameBytes f) } := by
  rw [busDeliver_eq hcs hp, heff, hr, devData_eq]
  rfl

/-- A frame that reads nothing has its plan's effect alone. -/
theorem busDeliver_of_readCount {f : BusFrame} {s t : State} {p : DevPlan} (hcs : s.bpe.csact = false)
    (hp : devPlan s.cfg s.dev f.frame = p) (hread : f.readCount = 0)
    (heff : (s.holding (f.held p)).devEffect (f.held p) = t) :
    busDeliver f s =
      { t with dev := { t.dev with rsten := (f.held p).isRsten, cur := none }, resp := .bytes [] } := by
  have hbytes : s.frameBytes f = [] := List.length_eq_zero_iff.1 ((frameBytes_length f s).trans hread)
  have hdata : s.devData f = s.holding (f.held p) := by
    rw [devData_eq, hp, hread]
    rfl
  rw [busDeliver_eq hcs hp, hbytes, hdata, heff]

/-- An instruction that puts a frame which reads nothing on the bus. -/
theorem exec_of_readCount {i : Instr} {f : BusFrame} {s t : State} {p : DevPlan}
    (hexec : exec i s = .next (busDeliver f s)) (hcs : s.bpe.csact = false)
    (hp : devPlan s.cfg s.dev f.frame = p) (hread : f.readCount = 0)
    (heff : (s.holding (f.held p)).devEffect (f.held p) = t) :
    exec i s = .next
      { t with dev := { t.dev with rsten := (f.held p).isRsten, cur := none }, resp := .bytes [] } :=
  hexec.trans (congrArg Host.Outcome.next (busDeliver_of_readCount hcs hp hread heff))

/-! ## Frames that move no data byte -/

/-- No data byte moves in a frame with an empty body. -/
theorem bodyEmpty_counts {b : BusBody} (h : bodyEmpty b = true) (op : Byte) :
    (b.withOpcode op).readCount = 0 ∧ ∀ p, ((b.withOpcode op).held p).moved = 0 := by
  simp only [bodyEmpty, Bool.and_eq_true, Bool.or_eq_true, Bool.not_eq_true', beq_iff_eq, List.isEmpty_iff] at h
  obtain ⟨hread, hwrite⟩ := h
  have hsent : (b.withOpcode op).sentBytes = [] := by
    unfold BusFrame.sentBytes
    split
    · rename_i hk
      exact hwrite.resolve_left (by simpa [BusBody.withOpcode] using hk)
    · rfl
  have hcount : (b.withOpcode op).readCount = 0 := by
    unfold BusFrame.readCount
    split
    · rename_i hk
      exact hread.resolve_left (by simpa [BusBody.withOpcode] using hk)
    · rfl
  exact ⟨hcount, fun p => by simp [InFlight.moved, BusFrame.held, hcount, hsent]⟩

/-! ## The plan of a decoded frame (R212, R213) -/

/-- A device that is idle, or busy with an opcode that it decodes even then, plans a frame at its own command width by
the row of the opcode. -/
theorem devPlan_decoded {p : Params} {d : Dev} {f : Frame} {o : DevOp} (hlanes : f.width.cmdLanes = d.lanes)
    (hgate : d.pending = none ∨ passesBusy p f.instr = true) (ho : devLookup p d.qpi f.instr = some o) :
    devPlan p d f = opPlan p d f o := by
  obtain hidle | hpass := hgate
  · exact devPlan_eq_opPlan hlanes hidle ho
  · simp [devPlan, hlanes, hpass, ho]

/-- A frame of a row's shape is sent at the device's own command width. -/
theorem commandShape_lanes {d : Dev} {addr : Bool} {n : BitVec 4} {f : Frame} (h : commandShape d addr n f = true) :
    f.width.cmdLanes = d.lanes := by
  simp only [commandShape, Bool.and_eq_true, beq_iff_eq] at h
  obtain ⟨⟨⟨⟨hwidth, -⟩, -⟩, -⟩, -⟩ := h
  rw [hwidth, cmdWidth_cmdLanes]

/-- The device plans a frame of a row's shape by that row. -/
theorem devPlan_row {p : Params} {d : Dev} {b : BusBody} {op : Byte} {addr : Bool} {n : BitVec 4} (o : DevOp)
    (hp : OpTable.wf p.devOps) (hshape : commandShape d addr n (b.withOpcode op).frame = true)
    (hgate : d.pending = none ∨ passesBusy p op = true) (hrow : (op, o) ∈ devRows p d.qpi) :
    devPlan p d (b.withOpcode op).frame = opPlan p d (b.withOpcode op).frame o :=
  devPlan_decoded (commandShape_lanes hshape) hgate (devLookup_of_mem hp hrow)

/-! ## The write-enable latch (R213) -/

/-- Settles O41: the frame is planned as OP_WREN, and its effect is the latch. -/
theorem devWriteEnable : Obligations.DevWriteEnable := by
  intro b s hwf hcs hidle hshape hempty
  obtain ⟨hread, hmoved⟩ := bodyEmpty_counts hempty s.cfg.devOps.wren
  have hplan : devPlan s.cfg s.dev (b.withOpcode s.cfg.devOps.wren).frame = .wren :=
    (devPlan_row .wren hwf hshape (.inl hidle) (by simp [devRows, commonRows])).trans (if_pos hshape)
  exact (exec_of_readCount rfl hcs hplan hread (if_pos (hmoved _))).trans rfl

/-! ## Status and identity (R214, R215) -/

theorem withBit_same (x : Byte) (i : Fin 8) (v : Bool) : (withBit x i v).getLsbD i = v := by
  cases v <;> simp [withBit]

theorem withBit_other (x : Byte) {i j : Fin 8} (h : j ≠ i) (v : Bool) :
    (withBit x i v).getLsbD j = x.getLsbD j := by
  have hne : j.val ≠ i.val := Fin.val_ne_of_ne h
  have hbit : (1#8 <<< i.val).getLsbD j.val = false := by
    simp only [BitVec.getLsbD_shiftLeft, BitVec.getLsbD_one, Bool.and_eq_false_iff, decide_eq_false_iff_not,
      Bool.not_eq_false', decide_eq_true_eq]
    omega
  have hset : (x ||| 1#8 <<< i.val).getLsbD j = x.getLsbD j := by
    rw [BitVec.getLsbD_or, hbit, Bool.or_false]
  have hclear : (x &&& ~~~(1#8 <<< i.val)).getLsbD j = x.getLsbD j := by
    rw [BitVec.getLsbD_and, BitVec.getLsbD_not, hbit]
    simp
  cases v <;> assumption

/-- A status byte shows WIP and WEL at their places (R201). -/
theorem statusByte_bits {p : Params} (h : p.wipBit ≠ p.welBit) (d : Dev) (free : Byte) :
    (statusByte p d free).getLsbD p.wipBit = d.pending.isSome ∧ (statusByte p d free).getLsbD p.welBit = d.wel := by
  unfold statusByte
  refine ⟨?_, withBit_same _ _ _⟩
  rw [withBit_other _ h, withBit_same]
  rfl

/-- Settles O42: the frame is planned as a status read, also by a busy device, and each of its bytes is a status
byte. -/
theorem devStatusRead : Obligations.DevStatusRead := by
  intro b s hwf hbits hcs hshape hread
  have hplan : devPlan s.cfg s.dev (b.withOpcode s.cfg.devOps.rdsr).frame = .status :=
    (devPlan_row .rdsr hwf hshape (.inr (by simp [passesBusy])) (by simp [devRows, commonRows])).trans
        (if_pos (by rw [hshape]; exact hread))
  have hcount : (b.withOpcode s.cfg.devOps.rdsr).readCount = b.nIn := if_pos hread
  refine ⟨_, congrArg Host.Outcome.next ((busDeliver_unchanged hcs hplan rfl rfl).trans (by rw [hcount])), ?_, ?_⟩
  · rw [frameBytes_length, hcount]
  · intro x hx
    rw [frameBytes_eq, hplan] at hx
    obtain ⟨k, -, rfl⟩ := List.mem_map.1 hx
    exact statusByte_bits hbits s.dev _

/-- The first three bytes of an identity read are the device's identity (R215). -/
theorem identity_bytes (p : Params) (d : Dev) (free : Nat → Byte) (n : Nat) :
    ((List.range n).map fun k => planByte p d k (free k) .identity).take 3 =
      [p.devId.mfr, p.devId.typ, p.devId.capid].take n := by
  match n with
  | 0 | 1 | 2 => rfl
  | n + 3 =>
    rw [← List.map_take, List.take_range, Nat.min_eq_left (by omega), List.take_of_length_le (by simp)]
    rfl

/-- A frame that the device plans as an identity read. -/
theorem busDeliver_identity {f : BusFrame} {s : State} (hcs : s.bpe.csact = false)
    (hread : f.frame.kind.isRead = true) (hp : devPlan s.cfg s.dev f.frame = .identity) :
    ∃ l : List Byte, busDeliver f s =
        { s with dev := s.dev.afterFrame, draws := s.draws + f.nIn, resp := .bytes l } ∧ l.length = f.nIn ∧
      l.take 3 = [s.cfg.devId.mfr, s.cfg.devId.typ, s.cfg.devId.capid].take f.nIn := by
  have hcount : f.readCount = f.nIn := if_pos hread
  refine ⟨_, (busDeliver_unchanged hcs hp rfl rfl).trans (by rw [hcount]), ?_, ?_⟩
  · rw [frameBytes_length, hcount]
  · rw [frameBytes_eq, hp, hcount]
    exact identity_bytes s.cfg s.dev _ _

/-- Settles O43: in each mode the frame is planned as an identity read. -/
theorem devIdentityRead : Obligations.DevIdentityRead := by
  intro b s hwf hcs hidle hread
  have hanswers (op : Byte) (hop : (op, DevOp.rdid) ∈ modeRows s.cfg.devOps s.dev.qpi)
      (hshape : commandShape s.dev false (if s.dev.qpi then s.cfg.devOps.dummyRdidQ else 0#4)
        (b.withOpcode op).frame = true) : devPlan s.cfg s.dev (b.withOpcode op).frame = .identity :=
    (devPlan_row .rdid hwf hshape (.inl hidle) (by simp [devRows, hop])).trans (if_pos (by rw [hshape]; exact hread))
  refine ⟨fun hquad hshape => ?_, fun hquad hshape => ?_⟩
  · obtain ⟨l, hl, hrest⟩ := busDeliver_identity hcs hread
      (hanswers s.cfg.devOps.rdid (by simp [modeRows, hquad]) (by simpa [hquad] using hshape))
    exact ⟨l, congrArg Host.Outcome.next hl, hrest⟩
  · obtain ⟨l, hl, hrest⟩ := busDeliver_identity hcs hread
      (hanswers s.cfg.devOps.rdidQ (by simp [modeRows, hquad]) (by simpa [hquad] using hshape))
    exact ⟨l, congrArg Host.Outcome.next hl, hrest⟩

end Sys2Proof.Machine

namespace Sys2Proof.Machine

/-! ## Array reads (R216) -/

/-- The rows of the array reads, each at its own width; in a 4-4-4 frame DEV.READ_111 has OP_READ(6). -/
def readRows (b : BusBody) : List (Instr × WidthCode) :=
  [(.devRead111 b, .w111), (.devRead112 b, .w112), (.devRead114 b, .w114), (.devRead122 b, .w122),
    (.devRead144 b, .w144), (.devRead111 b, .w444)]

/-- A read row in a frame of its width puts that frame with the width's opcode on the bus. -/
theorem exec_readRow {i : Instr} {w : WidthCode} {b : BusBody} (h : (i, w) ∈ readRows b) (hw : b.shape.width = w)
    (s : State) :
    ∃ op, s.cfg.devOps.read w = some op ∧ exec i s = .next (busDeliver (b.withOpcode op) s) := by
  have hread111 : exec (.devRead111 b) s =
      .next (busDeliver (b.withOpcode (s.cfg.devOps.read111For w)) s) := by subst hw; rfl
  simp only [readRows, List.mem_cons, Prod.mk.injEq, List.not_mem_nil, or_false] at h
  obtain ⟨rfl, rfl⟩ | ⟨rfl, rfl⟩ | ⟨rfl, rfl⟩ | ⟨rfl, rfl⟩ | ⟨rfl, rfl⟩ | ⟨rfl, rfl⟩ := h
  · exact ⟨_, rfl, hread111⟩
  · exact ⟨_, rfl, rfl⟩
  · exact ⟨_, rfl, rfl⟩
  · exact ⟨_, rfl, rfl⟩
  · exact ⟨_, rfl, rfl⟩
  · exact ⟨_, rfl, hread111⟩

/-- A read row's width has the command width of the mode that decodes it. -/
theorem readRow_lanes {i : Instr} {w : WidthCode} {b : BusBody} (h : (i, w) ∈ readRows b) {d : Dev}
    (hmode : d.qpi = true ↔ w = .w444) : w.cmdLanes = d.lanes := by
  have hsingle : w ≠ .w444 → w.cmdLanes = 1 := by
    simp only [readRows, List.mem_cons, Prod.mk.injEq, List.not_mem_nil, or_false] at h
    obtain ⟨-, rfl⟩ | ⟨-, rfl⟩ | ⟨-, rfl⟩ | ⟨-, rfl⟩ | ⟨-, rfl⟩ | ⟨-, rfl⟩ := h <;> simp [WidthCode.cmdLanes]
  unfold Dev.lanes
  split
  · rw [hmode.1 ‹_›]
    rfl
  · exact hsingle fun hw => absurd (hmode.2 hw) ‹_›

/-- A read frame of the right shape is planned by its option and its turnaround (R216). -/
theorem readPlan_shaped {p : Params} {d : Dev} {w : WidthCode} {f : Frame} (hw : f.width = w) (ha : f.addrEn = true)
    (haddr : f.addr32 = d.addr4) (hk : f.kind.isRead = true) :
    readPlan p d w f =
      if f.optEn = true ∧ safeOption p f = false then .havocAtEnd
      else if turnaround f = devReadCycles p w d.dcfg then .array f.sentAddr else .badRead :=
  if_pos ⟨hw, ha, haddr, hk⟩

/-- Settles O44: the frame is planned by its option and its turnaround, and its bytes are those of the plan. -/
theorem devArrayRead : Obligations.DevArrayRead := by
  intro i w b s hi hwf hcs hidle hmode hw ha haddr hk isSafe turns
  obtain ⟨op, hop, hexec⟩ := exec_readRow (b := b) hi hw s
  have hrow : devLookup s.cfg s.dev.qpi op = some (.read w) := by
    refine devLookup_read hwf ?_ hop
    split
    · exact hmode.1 ‹_›
    · exact fun h => absurd (hmode.2 h) ‹_›
  have hlanes : (b.withOpcode op).frame.width.cmdLanes = s.dev.lanes :=
    (congrArg WidthCode.cmdLanes hw).trans (readRow_lanes (b := b) hi hmode)
  have hplan := (devPlan_decoded hlanes (.inl hidle) hrow).trans (readPlan_shaped hw ha haddr hk)
  have hcount : (b.withOpcode op).readCount = b.nIn := if_pos hk
  have hlength : (s.frameBytes (b.withOpcode op)).length = b.nIn := (frameBytes_length _ s).trans hcount
  have hsafeOpt (hsafe : isSafe) :
      ¬ ((b.withOpcode op).frame.optEn = true ∧ safeOption s.cfg (b.withOpcode op).frame = false) :=
    fun ⟨hopt, hno⟩ => ne_true_of_eq_false hno (hsafe hopt)
  rw [hexec]
  refine ⟨fun hsafe hturns => ?_, fun hsafe hturns => ?_, fun hunsafe => ?_⟩
  · have harray : devPlan s.cfg s.dev (b.withOpcode op).frame = .array b.shape.sentAddr :=
      hplan.trans ((if_neg (hsafeOpt hsafe)).trans (if_pos hturns))
    rw [busDeliver_unchanged hcs harray rfl rfl, frameBytes_eq, harray, hcount]
    rfl
  · have hbad : devPlan s.cfg s.dev (b.withOpcode op).frame = .badRead :=
      hplan.trans ((if_neg (hsafeOpt hsafe)).trans (if_neg hturns))
    refine ⟨_, hlength, ?_⟩
    rw [busDeliver_unchanged hcs hbad rfl rfl, hcount]
  · obtain ⟨hopt, hno⟩ := Classical.not_imp.1 hunsafe
    have hhavoc : devPlan s.cfg s.dev (b.withOpcode op).frame = .havocAtEnd :=
      hplan.trans (if_pos ⟨hopt, eq_false_of_ne_true hno⟩)
    refine ⟨_, hlength, ?_⟩
    rw [busDeliver_havoc hcs hhavoc rfl rfl, hcount]

/-! ## Erase and program (R217, R218) -/

theorem devEffect_erase {s : State} {c : InFlight} {a : Nat} (hp : c.plan = .erase a) (hm : c.moved = 0) :
    s.devEffect c =
      if s.dev.wel then
        { s with dev := { s.dev with pending := some (.erase (a % s.cfg.capacity / s.cfg.sectorSize)) } }
      else s := by
  cases hw : s.dev.wel <;> simp [State.devEffect, hp, hm, startErase, hw]

theorem devEffect_program {s : State} {c : InFlight} {a : Nat} (hp : c.plan = .program a) :
    s.devEffect c =
      if s.dev.wel = true ∧ c.recv ≠ [] then
        { s with dev := { s.dev with pending := some (.program (programPairs s.cfg a c.recv)) } }
      else s := by
  by_cases hw : s.dev.wel = true ∧ c.recv ≠ []
  · simp only [State.devEffect, hp, startProgram, if_pos hw]
  · simp only [State.devEffect, hp, startProgram, if_neg hw]

/-- The pairs of a page program, by the place of each kept byte among the bytes sent (R218). -/
theorem programPairs_eq_range (p : Params) (a : Nat) (l : List Byte) :
    programPairs p a l = (List.range (l.length - (l.length - p.pageSize))).map fun k =>
      (a % p.capacity - a % p.capacity % p.pageSize +
        (a % p.pageSize + (l.length - p.pageSize + k)) % p.pageSize, l[l.length - p.pageSize + k]?.getD 0#8) := by
  refine List.ext_getElem (by simp [programPairs]) fun k hk _ => ?_
  have hplace : l.length - p.pageSize + k < l.length := by
    have hkept : k < l.length - (l.length - p.pageSize) := by simpa [programPairs] using hk
    omega
  simp [programPairs, pageBase, hplace]

/-- Settles O45: the frames are planned as OP_SE and OP_PP, and the latch decides whether the device becomes busy. -/
theorem devEraseProgramStart : Obligations.DevEraseProgramStart := by
  intro b s hwf hcs hidle a base skip quiet starts
  refine ⟨fun hshape hempty => ?_, fun hshape hk => ?_⟩
  · obtain ⟨hread, hmoved⟩ := bodyEmpty_counts hempty s.cfg.devOps.se
    have hplan : devPlan s.cfg s.dev (b.withOpcode s.cfg.devOps.se).frame = .erase a :=
      (devPlan_row .se hwf hshape (.inl hidle) (by simp [devRows, commonRows])).trans (if_pos hshape)
    split
    · exact (exec_of_readCount rfl hcs hplan hread ((devEffect_erase rfl (hmoved _)).trans (if_pos ‹_›))).trans rfl
    · exact (exec_of_readCount rfl hcs hplan hread ((devEffect_erase rfl (hmoved _)).trans (if_neg ‹_›))).trans rfl
  · have hplan : devPlan s.cfg s.dev (b.withOpcode s.cfg.devOps.pp).frame = .program a :=
      (devPlan_row .pp hwf hshape (.inl hidle) (by simp [devRows, commonRows])).trans
        (if_pos (by rw [hshape]; exact hk))
    have hsent : ((b.withOpcode s.cfg.devOps.pp).held (.program a)).recv = b.out := sentBytes_of_write hk
    have heffect := devEffect_program (s := s.holding ((b.withOpcode s.cfg.devOps.pp).held (.program a)))
      (c := (b.withOpcode s.cfg.devOps.pp).held (.program a)) rfl
    rw [hsent, programPairs_eq_range] at heffect
    split
    · exact (exec_of_readCount rfl hcs hplan (readCount_of_write hk) (heffect.trans (if_pos ‹_›))).trans rfl
    · exact (exec_of_readCount rfl hcs hplan (readCount_of_write hk) (heffect.trans (if_neg ‹_›))).trans rfl

/-! ## Bytes of the array after a scatter and after a program (R220, R221) -/

/-- A read after arbitrary bytes at some addresses. -/
theorem flashRead_scatter {cap : Nat} {m : FlashMem} (vals : Nat → Byte) (addrs : List Nat) (x : Nat)
    (h : Memory.wf cap m) :
    flashRead (flashScatter cap vals m addrs) x = if x ∈ addrs ∧ x < cap then vals x else flashRead m x := by
  induction addrs generalizing m with
  | nil => simp [flashScatter]
  | cons a addrs ih =>
    have hstep : flashScatter cap vals m (a :: addrs) =
        flashScatter cap vals (flashWrite cap m a (vals a)) addrs := rfl
    rw [hstep, ih (flashWrite_wf h), flashRead_write _ _ _ h]
    by_cases hx : x = a
    · subst hx
      by_cases hc : x < cap <;> simp [hc]
    · simp [hx]

/-- A read inside the array after a program (R221). -/
theorem flashRead_program {cap : Nat} {m : FlashMem} (pairs : List (Nat × Byte)) {x : Nat} (h : Memory.wf cap m)
    (hx : x < cap) :
    flashRead (flashProgram cap m pairs) x =
      (pairs.filter fun y => y.1 == x).foldl (fun b y => b &&& y.2) (flashRead m x) := by
  induction pairs generalizing m with
  | nil => rfl
  | cons y pairs ih =>
    have hstep : flashProgram cap m (y :: pairs) =
        flashProgram cap (flashWrite cap m y.1 (flashRead m y.1 &&& y.2)) pairs := rfl
    rw [hstep, ih (flashWrite_wf h), flashRead_write _ _ _ h]
    by_cases hy : y.1 = x
    · subst hy
      simp [hx]
    · rw [List.filter_cons_of_neg (by simpa using hy), if_neg fun hc => hy hc.1.symm]

/-! ## Reset (R211, R222) -/

theorem devEffect_rsten {s : State} {c : InFlight} (hp : c.plan = .rsten) (hm : c.moved = 0) : s.devEffect c = s := by
  simp [State.devEffect, hp, hm]

theorem devEffect_rst {s : State} {c : InFlight} (hp : c.plan = .rst) (hm : c.moved = 0) :
    s.devEffect c = if s.dev.rsten then s.devReset else s := by
  simp [State.devEffect, hp, hm]

/-- Only the target sector or page of an abandoned operation changes (R222). -/
theorem flashRead_abandonedArr {p : Params} {n : Nat} {d : Dev} {op : Pending} {x : Nat}
    (h : Memory.wf p.capacity d.arr) (hop : d.pending = some op) (hx : x ∉ op.region p) :
    flashRead (abandonedArr p n d) x = flashRead d.arr x := by
  unfold abandonedArr
  rw [hop]
  exact (flashRead_scatter _ _ _ h).trans (if_neg fun hc => hx hc.1)

theorem abandonedArr_idle {p : Params} {d : Dev} (n : Nat) (h : d.pending = none) : abandonedArr p n d = d.arr := by
  simp [abandonedArr, h]

/-- Settles O46: both frames are planned by their rows, also by a busy device, and the record of the frame before
decides what OP_RST does. -/
theorem devResetPair : Obligations.DevResetPair := by
  intro b s hwf hcs harr hempty
  refine ⟨fun hshape => ?_, fun hshape => ?_⟩
  · obtain ⟨hread, hmoved⟩ := bodyEmpty_counts hempty s.cfg.devOps.rsten
    have hplan : devPlan s.cfg s.dev (b.withOpcode s.cfg.devOps.rsten).frame = .rsten :=
      (devPlan_row .rsten hwf hshape (.inr (by simp [passesBusy])) (by simp [devRows, commonRows])).trans
        (if_pos hshape)
    have hrsten : ((b.withOpcode s.cfg.devOps.rsten).held .rsten).isRsten = true := by
      rw [InFlight.isRsten, hmoved]
      rfl
    refine congrArg Host.Outcome.next ?_
    rw [busDeliver_of_readCount hcs hplan hread (devEffect_rsten rfl (hmoved _)), hrsten]
    rfl
  · obtain ⟨hread, hmoved⟩ := bodyEmpty_counts hempty s.cfg.devOps.rst
    have hplan : devPlan s.cfg s.dev (b.withOpcode s.cfg.devOps.rst).frame = .rst :=
      (devPlan_row .rst hwf hshape (.inr (by simp [passesBusy])) (by simp [devRows, commonRows])).trans (if_pos hshape)
    have heffect := devEffect_rst (s := s.holding ((b.withOpcode s.cfg.devOps.rst).held .rst)) rfl (hmoved .rst)
    refine ⟨fun hoff => ?_, fun hon => ⟨abandonedArr s.cfg s.draws s.dev, ?_, abandonedArr_idle _, ?_⟩⟩
    · exact (exec_of_readCount rfl hcs hplan hread (heffect.trans (if_neg (ne_true_of_eq_false hoff)))).trans rfl
    · exact (exec_of_readCount rfl hcs hplan hread (heffect.trans (if_pos hon))).trans rfl
    · exact fun op x hop hx => flashRead_abandonedArr harr hop hx

/-! ## Quad mode, the dummy count and the address mode (R224 to R227) -/

theorem devEffect_eqio {s : State} {c : InFlight} (hp : c.plan = .eqio) (hm : c.moved = 0) :
    s.devEffect c = { s with dev := { s.dev with qpi := true } } := by
  simp [State.devEffect, hp, hm]

theorem devEffect_wrevcr {s : State} {c : InFlight} {e : Byte} (hp : c.plan = .wrevcr) (he : c.recv = [e]) :
    s.devEffect c = s.devWrevcr e := by
  simp [State.devEffect, hp, he]

theorem devEffect_wrvcr {s : State} {c : InFlight} {e : Byte} (hp : c.plan = .wrvcr) (he : c.recv = [e]) :
    s.devEffect c = s.devWrvcr e := by
  simp [State.devEffect, hp, he]

theorem devEffect_addrMode {s : State} {c : InFlight} {on : Bool} (hp : c.plan = if on then .en4b else .ex4b)
    (hm : c.moved = 0) :
    s.devEffect c = if s.dev.wel then { s with dev := { s.dev with addr4 := on, wel := false } } else s := by
  cases on <;> cases hw : s.dev.wel <;> simp [State.devEffect, hp, hm, devAddrMode, hw]

/-- The configuration byte in single mode: nothing with the latch clear, quad mode by the device's profile, or an
arbitrary device (R225). -/
theorem devWrevcr_single {s : State} (hquad : s.dev.qpi = false) (e : Byte) :
    s.devWrevcr e =
      if s.dev.wel then
        (if e = s.cfg.devOps.evcrQuad then
          { s with dev := { s.dev with wel := false, qpi := decide (e ∈ s.cfg.quadEvcr) } }
        else s.havoc)
      else s := by
  unfold State.devWrevcr
  by_cases hw : s.dev.wel = true <;> by_cases he : e = s.cfg.devOps.evcrQuad <;> simp [hw, he, hquad]

/-- The dummy configuration byte: nothing with the latch clear, its high nibble, or an arbitrary device (R226). -/
theorem devWrvcr_eq (e : Byte) (s : State) :
    s.devWrvcr e =
      if s.dev.wel then
        (if e.extractLsb' 0 4 = s.cfg.devOps.vcrLow then
          { s with dev := { s.dev with wel := false, dcfg := e.extractLsb' 4 4 } }
        else s.havoc)
      else s := by
  unfold State.devWrvcr
  by_cases hw : s.dev.wel = true <;> by_cases he : e.extractLsb' 0 4 = s.cfg.devOps.vcrLow <;> simp [hw, he]

/-- Settles O47: each frame is planned by its row of the device's variant, and the byte written decides. -/
theorem devQuadAndDummyConfig : Obligations.DevQuadAndDummyConfig := by
  intro b e s hwf hcs hidle quiet havoc
  refine ⟨fun hB hquad hempty hshape => ?_, fun hA hk hout => ⟨fun hquad hshape => ?_, fun hshape => ?_⟩⟩
  · obtain ⟨hread, hmoved⟩ := bodyEmpty_counts hempty s.cfg.devOps.eqio
    have hplan : devPlan s.cfg s.dev (b.withOpcode s.cfg.devOps.eqio).frame = .eqio :=
      (devPlan_row .eqio hwf hshape (.inl hidle) (by simp [devRows, variantRows, hB, hquad])).trans (if_pos hshape)
    exact (exec_of_readCount rfl hcs hplan hread (devEffect_eqio rfl (hmoved _))).trans rfl
  · have hplan : devPlan s.cfg s.dev (b.withOpcode s.cfg.devOps.wrevcr).frame = .wrevcr :=
      (devPlan_row .wrevcr hwf hshape (.inl hidle) (by simp [devRows, variantRows, hA, hquad])).trans
        (if_pos (by rw [hshape]; exact hk))
    have hsent : ((b.withOpcode s.cfg.devOps.wrevcr).held .wrevcr).recv = [e] := (sentBytes_of_write hk).trans hout
    have heffect :=
      (devEffect_wrevcr (s := s.holding ((b.withOpcode s.cfg.devOps.wrevcr).held .wrevcr)) rfl hsent).trans
        (devWrevcr_single (s := s.holding _) hquad e)
    split
    · split
      · exact (exec_of_readCount rfl hcs hplan (readCount_of_write hk)
          (heffect.trans ((if_pos ‹_›).trans (if_pos ‹_›)))).trans rfl
      · exact (exec_of_readCount rfl hcs hplan (readCount_of_write hk)
          (heffect.trans ((if_pos ‹_›).trans (if_neg ‹_›)))).trans rfl
    · exact (exec_of_readCount rfl hcs hplan (readCount_of_write hk) (heffect.trans (if_neg ‹_›))).trans rfl
  · have hplan : devPlan s.cfg s.dev (b.withOpcode s.cfg.devOps.wrvcr).frame = .wrvcr :=
      (devPlan_row .wrvcr hwf hshape (.inl hidle) (by simp [devRows, variantRows, hA])).trans
        (if_pos (by rw [hshape]; exact hk))
    have hsent : ((b.withOpcode s.cfg.devOps.wrvcr).held .wrvcr).recv = [e] := (sentBytes_of_write hk).trans hout
    have heffect :=
      (devEffect_wrvcr (s := s.holding ((b.withOpcode s.cfg.devOps.wrvcr).held .wrvcr)) rfl hsent).trans
        (devWrvcr_eq e _)
    split
    · split
      · exact (exec_of_readCount rfl hcs hplan (readCount_of_write hk)
          (heffect.trans ((if_pos ‹_›).trans (if_pos ‹_›)))).trans rfl
      · exact (exec_of_readCount rfl hcs hplan (readCount_of_write hk)
          (heffect.trans ((if_pos ‹_›).trans (if_neg ‹_›)))).trans rfl
    · exact (exec_of_readCount rfl hcs hplan (readCount_of_write hk) (heffect.trans (if_neg ‹_›))).trans rfl

/-- Settles O48: the frame is planned by its row of variant A, and the latch decides. -/
theorem devAddressMode : Obligations.DevAddressMode := by
  intro i op on b s hi hwf hcs hidle hA hshape hempty
  obtain ⟨hread, hmoved⟩ := bodyEmpty_counts hempty op
  have hrow : exec i s = .next (busDeliver (b.withOpcode op) s) ∧
      devPlan s.cfg s.dev (b.withOpcode op).frame = if on then .en4b else .ex4b := by
    simp only [List.mem_cons, Prod.mk.injEq, List.not_mem_nil, or_false] at hi
    obtain ⟨rfl, rfl, rfl⟩ | ⟨rfl, rfl, rfl⟩ := hi
    · exact ⟨rfl, (devPlan_row .en4b hwf hshape (.inl hidle) (by simp [devRows, variantRows, hA])).trans
        (if_pos hshape)⟩
    · exact ⟨rfl, (devPlan_row .ex4b hwf hshape (.inl hidle) (by simp [devRows, variantRows, hA])).trans
        (if_pos hshape)⟩
  obtain ⟨hexec, hplan⟩ := hrow
  have hrsten : ((b.withOpcode op).held (if on then .en4b else .ex4b)).isRsten = false := by cases on <;> rfl
  have heffect := devEffect_addrMode
    (s := s.holding ((b.withOpcode op).held (if on then .en4b else .ex4b))) (on := on) rfl (hmoved _)
  rw [hexec]
  refine congrArg Host.Outcome.next ?_
  split
  · rw [busDeliver_of_readCount hcs hplan hread (heffect.trans (if_pos ‹_›)), hrsten]
    rfl
  · rw [busDeliver_of_readCount hcs hplan hread (heffect.trans (if_neg ‹_›)), hrsten]
    rfl

end Sys2Proof.Machine

namespace Sys2Proof.Machine

/-! ## Opcodes that the device does not decode (R213, R231) -/

/-- The table's bytes as a device in this mode reads them: OP_READ(6) for OP_READ(0) in quad mode. -/
def modeBytes (t : OpTable) (quad : Bool) : List Byte := t.bytes.set 8 (t.read111For (cmdWidth quad))

theorem modeBytes_length (t : OpTable) (quad : Bool) : (modeBytes t quad).length = 18 := List.length_set

/-- The byte at a place of the table in this mode. -/
def modeByte (t : OpTable) (quad : Bool) (i : Fin 18) : Byte :=
  (modeBytes t quad).get (i.cast (modeBytes_length t quad).symm)

/-- The places of the rows that a device of this variant decodes in this mode. -/
def decodedPlaces (v : Variant) (quad : Bool) : List (Fin 18) :=
  match v, quad with
  | .A, false => [5, 4, 6, 7, 0, 1, 2, 8, 9, 10, 11, 12, 14, 15, 16, 17]
  | .A, true => [5, 4, 6, 7, 0, 1, 3, 8, 15, 16, 17]
  | .B, false => [5, 4, 6, 7, 0, 1, 2, 8, 9, 10, 11, 12, 13]
  | .B, true => [5, 4, 6, 7, 0, 1, 3, 8]

theorem devRows_opcodes (p : Params) (quad : Bool) :
    (devRows p quad).map Prod.fst = (decodedPlaces p.devVariant quad).map (modeByte p.devOps quad) := by
  unfold devRows
  cases p.devVariant <;> cases quad <;> rfl

theorem modeByte_mem (t : OpTable) (quad : Bool) (i : Fin 18) : modeByte t quad i ∈ modeBytes t quad :=
  List.get_mem _ _

theorem modeByte_injective {t : OpTable} (ht : OpTable.wf t) (quad : Bool) :
    Function.Injective (modeByte t quad) := by
  have hbytes : (modeBytes t quad).Nodup :=
    (busRows_opcodes_perm t (cmdWidth quad)).nodup_iff.1 (busRows_opcodes_nodup ht _)
  exact (List.nodup_iff_injective_get.1 hbytes).comp (Fin.cast_injective _)

/-- An opcode is not decoded where no row has it. -/
theorem devLookup_eq_none {p : Params} {quad : Bool} {op : Byte}
    (h : op ∉ (decodedPlaces p.devVariant quad).map (modeByte p.devOps quad)) : devLookup p quad op = none := by
  rw [← devRows_opcodes] at h
  rw [devLookup_eq_lookup, List.lookup_eq_none_iff]
  intro row hrow
  have hne : op ≠ row.1 := fun heq => h (heq ▸ List.mem_map_of_mem hrow)
  exact bne_iff_ne.2 hne

/-- The opcode of a place that the device does not decode is not that of another row (R200). -/
theorem devLookup_place {p : Params} (hp : OpTable.wf p.devOps) {quad : Bool} {i : Fin 18}
    (h : i ∉ decodedPlaces p.devVariant quad) : devLookup p quad (modeByte p.devOps quad i) = none :=
  devLookup_eq_none fun hmem => h ((List.mem_map_of_injective (modeByte_injective hp quad)).1 hmem)

/-- A byte that the table does not hold in this mode is no row's opcode. -/
theorem devLookup_absent {p : Params} {quad : Bool} {op : Byte} (h : op ∉ modeBytes p.devOps quad) :
    devLookup p quad op = none := by
  refine devLookup_eq_none fun hmem => h ?_
  obtain ⟨i, -, rfl⟩ := List.mem_map.1 hmem
  exact modeByte_mem _ _ i

/-- OP_READ(0) is no opcode in quad mode, where OP_READ(6) is another. -/
theorem read111_absent {t : OpTable} (ht : OpTable.wf t) (hne : t.read444 ≠ t.read111) :
    t.read111 ∉ modeBytes t true := by
  intro hmem
  obtain ⟨i, hi, hget⟩ := List.mem_iff_getElem.1 hmem
  have hlength : i < t.bytes.length := by simpa [modeBytes] using hi
  by_cases h8 : i = 8
  · subst h8
    exact hne hget
  · have hsame : t.bytes[i] = t.bytes[8]'(by simp [OpTable.bytes]) :=
      (List.getElem_set_ne (Ne.symm h8) _).symm.trans hget
    exact h8 (ht.1.getElem_inj_iff.1 hsame)

/-- OP_READ(6) is no opcode in single mode, where OP_READ(0) is another. -/
theorem read444_absent {t : OpTable} (ht : OpTable.wf t) (hne : t.read444 ≠ t.read111) :
    t.read444 ∉ modeBytes t false := ht.2.resolve_left hne

/-- What `UndecodedFramesIgnored` says of an opcode that an idle device's variant and mode do not have (R213, R231). -/
def OpcodeMissing (p : Params) (quad : Bool) (op : Byte) : Prop :=
  (op = p.devOps.eqio ∧ (p.devVariant = .A ∨ quad = true)) ∨
  (op = p.devOps.wrevcr ∧ (p.devVariant = .B ∨ quad = true)) ∨
  (op ∈ [p.devOps.wrvcr, p.devOps.en4b, p.devOps.ex4b] ∧ p.devVariant = .B) ∨
  (op ∈ [p.devOps.rdid, p.devOps.read112, p.devOps.read114, p.devOps.read122, p.devOps.read144] ∧ quad = true) ∨
  (op = p.devOps.rdidQ ∧ quad = false) ∨
  (op = p.devOps.read111 ∧ quad = true ∧ p.devOps.read444 ≠ p.devOps.read111) ∨
  (op = p.devOps.read444 ∧ quad = false ∧ p.devOps.read444 ≠ p.devOps.read111) ∨
  (op ∉ p.devOps.bytes ∧ op ≠ p.devOps.read444)

/-- The places that a device of this variant does not decode in this mode. -/
theorem not_mem_decodedPlaces (v : Variant) (quad : Bool) :
    (v = .A ∨ quad = true → 13 ∉ decodedPlaces v quad) ∧ (v = .B ∨ quad = true → 14 ∉ decodedPlaces v quad) ∧
    (v = .B → ∀ i ∈ ([15, 16, 17] : List (Fin 18)), i ∉ decodedPlaces v quad) ∧
    (quad = true → ∀ i ∈ ([2, 9, 10, 11, 12] : List (Fin 18)), i ∉ decodedPlaces v quad) ∧
    (quad = false → 3 ∉ decodedPlaces v quad) := by
  refine ⟨?_, ?_, ?_, ?_, ?_⟩ <;> cases v <;> cases quad <;> decide

theorem devLookup_missing {p : Params} (hp : OpTable.wf p.devOps) {quad : Bool} {op : Byte}
    (h : OpcodeMissing p quad op) : devLookup p quad op = none := by
  obtain ⟨heqio, hwrevcr, hB, hquad, hsingle⟩ := not_mem_decodedPlaces p.devVariant quad
  obtain ⟨rfl, hv⟩ | ⟨rfl, hv⟩ | ⟨hop, hv⟩ | ⟨hop, hq⟩ | ⟨rfl, hq⟩ | ⟨rfl, rfl, hne⟩ | ⟨rfl, rfl, hne⟩ |
    ⟨hbytes, hne⟩ := h
  · exact devLookup_place (i := 13) hp (heqio hv)
  · exact devLookup_place (i := 14) hp (hwrevcr hv)
  · obtain ⟨i, hi, rfl⟩ : ∃ i ∈ [15, 16, 17], modeByte p.devOps quad i = op := List.mem_map.1 hop
    exact devLookup_place hp (hB hv i hi)
  · obtain ⟨i, hi, rfl⟩ : ∃ i ∈ [2, 9, 10, 11, 12], modeByte p.devOps quad i = op := List.mem_map.1 hop
    exact devLookup_place hp (hquad hq i hi)
  · exact devLookup_place (i := 3) hp (hsingle hq)
  · exact devLookup_absent (read111_absent hp hne)
  · exact devLookup_absent (read444_absent hp hne)
  · refine devLookup_absent fun hmem => ?_
    obtain hmem | rfl := List.mem_or_eq_of_mem_set hmem
    · exact hbytes hmem
    · cases quad with
      | true => exact hne rfl
      | false => exact hbytes (by simp [OpTable.bytes, OpTable.read111For, cmdWidth])

/-- A busy device ignores a frame whose opcode it does not decode while busy (R212). -/
theorem devPlan_busy {p : Params} {d : Dev} {f : Frame} (hlanes : f.width.cmdLanes = d.lanes)
    (hbusy : d.pending.isSome = true) (hpass : passesBusy p f.instr = false) : devPlan p d f = .ignored := by
  simp [devPlan, hlanes, Dev.busy, hbusy, hpass]

/-- An idle device ignores a frame whose opcode it does not decode (R231). -/
theorem devPlan_undecoded {p : Params} {d : Dev} {f : Frame} (hlanes : f.width.cmdLanes = d.lanes)
    (hnone : devLookup p d.qpi f.instr = none) : devPlan p d f = .ignored := by
  unfold devPlan
  rw [if_neg (not_not_intro hlanes), hnone]
  split <;> rfl

/-- Settles O49: in each case the frame is planned as one to ignore. -/
theorem undecodedFramesIgnored : Obligations.UndecodedFramesIgnored := by
  intro f s hcs hlanes t op missing h
  have hplan : devPlan s.cfg s.dev f.frame = .ignored := by
    obtain ⟨hbusy, hrdsr, hrsten, hrst⟩ | ⟨-, hnone⟩ | ⟨-, hwf, hmissing⟩ := h
    · exact devPlan_busy hlanes hbusy (by simpa [passesBusy] using ⟨⟨hrdsr, hrsten⟩, hrst⟩)
    · exact devPlan_undecoded hlanes hnone
    · exact devPlan_undecoded hlanes (devLookup_missing hwf hmissing)
  refine ⟨s.frameBytes f, frameBytes_length f s, ?_⟩
  rw [busDeliver_unchanged hcs hplan rfl rfl, frameBytes_length]

/-! ## Frames of the wrong shape (R212, R230) -/

/-- A frame at another command width: a device in single mode ignores a short one, and any other leaves the device
arbitrary. -/
theorem devEffect_misread {s : State} {c : InFlight} {single : Bool} (hp : c.plan = .misread single) :
    s.devEffect c = if single = true ∧ c.frame.cycles c.moved < 8 then s else s.havoc := by
  simp [State.devEffect, hp]

theorem isRsten_of_plan {c : InFlight} (h : c.plan ≠ .rsten) : c.isRsten = false := by
  simp [InFlight.isRsten, h]

/-- The plans of the rows whose frames move no data byte (notes/assumptions/12.md). -/
def DevPlan.noData : DevPlan → Bool
  | .wren | .erase _ | .rsten | .rst | .eqio | .en4b | .ex4b => true
  | _ => false

/-- A row without data in which data moved leaves the device arbitrary. -/
theorem devEffect_noData {s : State} {c : InFlight} (hp : c.plan.noData = true) (hm : c.moved ≠ 0) :
    s.devEffect c = s.havoc := by
  cases hplan : c.plan with
  | wren | erase a | rsten | rst | eqio | en4b | ex4b => simp [State.devEffect, hplan, hm]
  | _ => simp [hplan, DevPlan.noData] at hp

/-- A row of one data byte in which another number of bytes moved leaves the device arbitrary. -/
theorem devEffect_oneByte {s : State} {c : InFlight} (hp : c.plan = .wrevcr ∨ c.plan = .wrvcr)
    (hr : c.recv.length ≠ 1) : s.devEffect c = s.havoc := by
  obtain hp | hp := hp <;>
    match hrecv : c.recv with
    | [] => simp [State.devEffect, hp, hrecv]
    | [e] => exact absurd (by rw [hrecv]; rfl) hr
    | e :: e' :: l => simp [State.devEffect, hp, hrecv]

/-- A read row whose frame has another shape is a read of arbitrary bytes (R212). -/
theorem opPlan_wrongShape_read {p : Params} {d : Dev} {f : Frame} {n : Nat} {o : DevOp} (ho : o.isRead = true)
    (h : rightShape p d f n o = false) : opPlan p d f o = .badRead := by
  cases o with
  | rdsr | rdid => exact if_neg (ne_true_of_eq_false h)
  | read w =>
    refine if_neg fun ⟨hw, ha, haddr, hk⟩ => ne_true_of_eq_false h ?_
    simp [rightShape, hw, ha, haddr, hk]
  | _ => cases ho

/-- Any other row whose frame has another shape is refused at its begin, or is planned as the row and has the wrong
number of data bytes (R212; notes/assumptions/12.md). -/
theorem opPlan_wrongShape_write {p : Params} {d : Dev} {f : Frame} {n : Nat} {o : DevOp} (ho : o.isRead = false)
    (h : rightShape p d f n o = false) :
    opPlan p d f o = .havocAtEnd ∨ ((opPlan p d f o).noData = true ∧ n ≠ 0) ∨
      ((opPlan p d f o = .wrevcr ∨ opPlan p d f o = .wrvcr) ∧ f.kind.isWrite = true ∧ n ≠ 1) := by
  have hbare {addr : Bool} {plan : DevPlan} (hplan : plan.noData = true)
      (hrow : opPlan p d f o = if commandShape d addr 0#4 f then plan else .havocAtEnd)
      (hshape : (commandShape d addr 0#4 f && n == 0) = false) :
      opPlan p d f o = .havocAtEnd ∨ ((opPlan p d f o).noData = true ∧ n ≠ 0) := by
    rw [hrow]
    split
    · rename_i hs
      exact .inr ⟨hplan, by simpa [hs] using hshape⟩
    · exact .inl rfl
  have hbyte {plan : DevPlan} (hplan : plan = .wrevcr ∨ plan = .wrvcr)
      (hrow : opPlan p d f o = if commandShape d false 0#4 f && f.kind.isWrite then plan else .havocAtEnd)
      (hshape : (commandShape d false 0#4 f && f.kind.isWrite && n == 1) = false) :
      opPlan p d f o = .havocAtEnd ∨
        ((opPlan p d f o = .wrevcr ∨ opPlan p d f o = .wrvcr) ∧ f.kind.isWrite = true ∧ n ≠ 1) := by
    rw [hrow]
    split
    · rename_i hs
      exact .inr ⟨hplan, (Bool.and_eq_true_iff.1 hs).2, by simpa [hs] using hshape⟩
    · exact .inl rfl
  cases o with
  | rdsr | rdid | read w => cases ho
  | pp => exact .inl (if_neg (ne_true_of_eq_false h))
  | wrevcr => exact (hbyte (.inl rfl) rfl h).imp_right .inr
  | wrvcr => exact (hbyte (.inr rfl) rfl h).imp_right .inr
  | wren => exact (hbare (plan := .wren) rfl rfl h).imp_right .inl
  | se => exact (hbare (plan := .erase f.sentAddr) rfl rfl h).imp_right .inl
  | rsten => exact (hbare (plan := .rsten) rfl rfl h).imp_right .inl
  | rst => exact (hbare (plan := .rst) rfl rfl h).imp_right .inl
  | eqio => exact (hbare (plan := .eqio) rfl rfl h).imp_right .inl
  | en4b => exact (hbare (plan := .en4b) rfl rfl h).imp_right .inl
  | ex4b => exact (hbare (plan := .ex4b) rfl rfl h).imp_right .inl

/-- A frame of another shape than that of its row, which is no read, leaves the device arbitrary and arms no reset
(R212, R211). -/
theorem devEffect_wrongShape {p : Params} {d : Dev} {f : BusFrame} {n : Nat} {o : DevOp} (ho : o.isRead = false)
    (hn : (f.held (opPlan p d f.frame o)).moved = n) (h : rightShape p d f.frame n o = false) (s : State) :
    s.devEffect (f.held (opPlan p d f.frame o)) = s.havoc ∧ (f.held (opPlan p d f.frame o)).isRsten = false := by
  subst hn
  obtain hplan | ⟨hplan, hmoved⟩ | ⟨hplan, hk, hmoved⟩ := opPlan_wrongShape_write ho h
  · rw [hplan]
    exact ⟨rfl, rfl⟩
  · exact ⟨devEffect_noData hplan hmoved, by simp [InFlight.isRsten, hmoved]⟩
  · have hrecv : (f.held (opPlan p d f.frame o)).recv.length ≠ 1 := by
      simpa [InFlight.moved, BusFrame.held, readCount_of_write hk] using hmoved
    refine ⟨devEffect_oneByte hplan hrecv, isRsten_of_plan fun hrsten => ?_⟩
    obtain hplan | hplan := hplan <;> cases hplan.symm.trans hrsten

/-- Settles O59: the plan is that of a misread frame or that of a wrong shape. -/
theorem misreadFrames : Obligations.MisreadFrames := by
  intro f s hcs moved quiet havoc
  have hlength := frameBytes_length f s
  refine ⟨fun hlanes => ⟨s.frameBytes f, hlength, ?_⟩, fun o hlanes hgate ho hshape => ⟨s.frameBytes f, hlength, ?_⟩⟩
  · have hplan : devPlan s.cfg s.dev f.frame = .misread (!s.dev.qpi) := if_pos hlanes
    have heffect := devEffect_misread (s := s.devData f) (c := f.held (.misread (!s.dev.qpi))) rfl
    simp only [held_moved, Bool.not_eq_true'] at heffect
    split
    · rw [busDeliver_unchanged hcs hplan (heffect.trans (if_pos ‹_›)) rfl, ← hlength]
    · rw [busDeliver_havoc hcs hplan (heffect.trans (if_neg ‹_›)) rfl, ← hlength]
  · have hplan := devPlan_decoded (p := s.cfg) hlanes hgate ho
    split
    · have hbad := hplan.trans (opPlan_wrongShape_read ‹_› hshape)
      rw [busDeliver_unchanged hcs hbad rfl rfl, ← hlength]
    · obtain ⟨heffect, hrsten⟩ :=
        devEffect_wrongShape (eq_false_of_ne_true ‹_›) (held_moved f _) hshape (s.devData f)
      rw [busDeliver_havoc hcs hplan heffect hrsten, ← hlength]

/-! ## The device agent (R219 to R221) -/

/-- The draws of the device agent change nothing but their number. -/
theorem drawFinish_eq (s : State) : s.drawFinish.2 = { s with draws := s.drawFinish.2.draws } := by
  unfold State.drawFinish
  split <;> rfl

theorem drawSilent_eq (s : State) : s.drawSilent.2 = { s with draws := s.drawSilent.2.draws } := by
  unfold State.drawSilent
  split <;> rfl

/-- A device that does not finish has used up a draw (R219). -/
theorem drawFinish_of_hang {s : State} (h : s.drawFinish.1 = false) : s.drawFinish.2 = s.nextDraw := by
  cases hhang : s.cfg.devMayHang with
  | true => simp [State.drawFinish, hhang, State.drawBit]
  | false => simp [State.drawFinish, hhang] at h

/-- The array once an operation has ended, as it should or by a silent failure with draw `n` (R220, R221). -/
def endedArr (p : Params) (n : Nat) (op : Pending) (silent : Bool) (m : FlashMem) : FlashMem :=
  if silent then flashScatter p.capacity (Config.freeByte n) m (op.targets p) else completedArr p op m

/-- The device agent's step ends the operation, where the draw says so (R219). -/
theorem devStep_finish {s : State} {op : Pending} (hop : s.dev.pending = some op) (hf : s.drawFinish.1 = true) :
    devStep s = s.drawFinish.2.drawSilent.2.devComplete op s.drawFinish.2.drawSilent.1 := by
  simp [devStep, hop, hf]

/-- The number of the draw that a completion uses, after those that decide it. -/
def State.completionDraw (s : State) : Nat := s.drawFinish.2.drawSilent.2.draws

/-- The end of an operation leaves the device idle with its latch clear, and nothing else but the draws changed. -/
theorem devComplete_afterDraws (op : Pending) (silent : Bool) (s : State) :
    s.drawFinish.2.drawSilent.2.devComplete op silent = { s with
      dev := { s.dev with
        arr := endedArr s.cfg s.completionDraw op silent s.dev.arr, pending := none, wel := false }
      draws := s.completionDraw + 1 } := by
  have hdraws : s.drawFinish.2.drawSilent.2 = { s with draws := s.completionDraw } := by
    rw [State.completionDraw, drawSilent_eq, drawFinish_eq]
  rw [hdraws]
  rfl

theorem mem_sector {p : Params} {k x : Nat} :
    x ∈ (Pending.erase k).targets p ↔ k * p.sectorSize ≤ x ∧ x < k * p.sectorSize + p.sectorSize := by
  simp only [Pending.targets, sectorBase, List.mem_map, List.mem_range]
  constructor
  · rintro ⟨i, hi, rfl⟩
    omega
  · intro hx
    exact ⟨x - k * p.sectorSize, by omega, by omega⟩

theorem mem_programTargets {p : Params} {pairs : List (Nat × Byte)} {x : Nat} :
    x ∈ (Pending.program pairs).targets p ↔ ∃ b, (x, b) ∈ pairs := by
  simp [Pending.targets]

/-- Settles O50, from the step's branches and a read after an erase and after a scatter. -/
theorem eraseCompletes : Obligations.EraseCompletes := by
  refine ⟨fun s k harr hop hf hs => ?_, fun s op harr hop => ?_, fun s h => by simp [devStep, h]⟩
  · refine ⟨_, _, (devStep_finish hop hf).trans (devComplete_afterDraws _ _ s), fun x => ?_⟩
    rw [hs]
    exact flashRead_erase _ _ x harr
  · intro isTarget
    have htargets (x : Nat) : isTarget x ↔ x ∈ op.targets s.cfg ∧ x < s.cfg.capacity := by
      cases op with
      | erase k => exact and_comm.trans (and_congr_left' mem_sector.symm)
      | program pairs => exact and_comm.trans (and_congr_left' mem_programTargets.symm)
    refine ⟨endedArr s.cfg s.completionDraw op true s.dev.arr, s.completionDraw + 1, s.completionDraw, ?_,
      fun x => ?_⟩
    · split
      · rename_i hf
        simp only [devStep, hop, hf]
        exact drawFinish_of_hang hf
      · rename_i hf
        have hstep := devStep_finish hop (eq_true_of_ne_false hf)
        split
        · rename_i hs
          rw [hstep, hs]
        · rename_i hs
          rw [hstep, eq_true_of_ne_false hs]
          exact devComplete_afterDraws op true s
    · have hread := flashRead_scatter (Config.freeByte s.completionDraw) (op.targets s.cfg) x harr
      exact ⟨fun hx => hread.trans (if_pos ((htargets x).1 hx)),
        fun hx => hread.trans (if_neg fun hmem => hx ((htargets x).2 hmem))⟩

/-- Settles O51, from the step's branches and a read after a program. -/
theorem programCompletes : Obligations.ProgramCompletes := by
  intro s pairs harr hop hf hs
  refine ⟨_, _, (devStep_finish hop hf).trans (devComplete_afterDraws _ _ s), fun x hx => ?_⟩
  rw [hs]
  exact flashRead_program pairs harr hx

end Sys2Proof.Machine

/-! The laws of the CRC-32 unit, and the statements of spec/43_crc32.md. A CRC is taken bit by bit: a word fed at once
is its bits fed one after the other, feeding is linear over xor, and a shift loses no information. -/

namespace Sys2Proof.Machine

/-! ## The rows of the CRC unit (R240 to R245) -/

/-- CRCSTATUS is the match bit alone (R52). -/
theorem crc_status_eq (c : Crc) :
    c.status = if c.crcstate ^^^ 0xFFFFFFFF#32 = c.crcexpect then 1#32 else 0#32 := by
  simp [Crc.status, Crc.isMatch, Crc.result, bitAt]

/-- Settles O9: each row is its own update of the CRC unit, and CRCSTATUS is read as the match bit. -/
theorem crcControlRows : Obligations.CrcControlRows := by
  intro s b v
  refine ⟨rfl, rfl, rfl, rfl, rfl, ?_⟩
  rw [← crc_status_eq]
  rfl

@[simp] theorem crcFeed_leBytes_zero (x v : Word) : crcFeed x (leBytes 0 v) = x := rfl

/-- Feeding the bytes of a word is feeding them one after the other, the least significant first (R241). -/
theorem crcFeed_leBytes_succ (n : Nat) (x v : Word) :
    crcFeed x (leBytes (n + 1) v) = crcByte (crcFeed x (leBytes n v)) (v.extractLsb' (8 * n) 8) := by
  simp [crcFeed, leBytes, List.range_succ]

/-- The byte at `k` of a value is the same in the word that holds it. -/
theorem extractLsb'_setWidth_word {w k : Nat} (v : BitVec w) (hk : k + 8 ≤ 32) :
    (v.setWidth 32).extractLsb' k 8 = v.extractLsb' k 8 := by
  apply BitVec.eq_of_getLsbD_eq
  intro j hj
  have hword : k + j < 32 := by omega
  simp [hword]

/-- Settles O10: each row feeds the bytes of its word, which are those of the value. -/
theorem crcFeedRows : Obligations.CrcFeedRows := by
  intro s a b c
  have hone (x : Word) : crcFeed x (leBytes 1 (a.setWidth 32)) = crcByte x a := by
    rw [crcFeed_leBytes_succ, crcFeed_leBytes_zero, extractLsb'_setWidth_word a (by omega)]
    simp
  have htwo (x : Word) : crcFeed x (leBytes 2 (b.setWidth 32)) =
      crcByte (crcByte x (b.extractLsb' 0 8)) (b.extractLsb' 8 8) := by
    rw [crcFeed_leBytes_succ, crcFeed_leBytes_succ, crcFeed_leBytes_zero, extractLsb'_setWidth_word b (by omega),
      extractLsb'_setWidth_word b (by omega)]
  have hfour (x : Word) : crcFeed x (leBytes 4 c) = crcByte (crcByte (crcByte (crcByte x (c.extractLsb' 0 8))
      (c.extractLsb' 8 8)) (c.extractLsb' 16 8)) (c.extractLsb' 24 8) := by
    simp only [crcFeed_leBytes_succ, crcFeed_leBytes_zero, Nat.reduceMul]
  rw [← hone, ← htwo, ← hfour]
  exact ⟨rfl, rfl, rfl⟩

/-! ## The shifts (R246) -/

theorem crcShifts_eq_iterate (n : Nat) (s : Word) : crcShifts n s = crcShift^[n] s := by
  induction n generalizing s with
  | zero => rfl
  | succ n ih => exact ih (crcShift s)

/-- Settles O11: the shifts are an iteration, CRC32 is its own fold, and the check values are computed. -/
theorem crcCheckValues : Obligations.CrcCheckValues := by
  refine ⟨fun s b => ?_, fun m => rfl, rfl, by simp [crc32, crcFeed, crcByte, crcShifts, crcShift]⟩
  have hfold := List.foldl_const crcShift (s ^^^ b.setWidth 32) (List.range 8)
  rw [List.length_range] at hfold
  rw [crcByte, crcShifts_eq_iterate, ← hfold]
  rfl

/-- A shift is linear over xor. -/
theorem crcShift_xor (x y : Word) : crcShift (x ^^^ y) = crcShift x ^^^ crcShift y := by
  have hshift : (x ^^^ y) >>> 1 = x >>> 1 ^^^ y >>> 1 := BitVec.ushiftRight_xor_distrib x y 1
  have hpoly (a b p : Word) : a ^^^ p ^^^ (b ^^^ p) = a ^^^ b := by
    rw [BitVec.xor_assoc, BitVec.xor_comm b p, ← BitVec.xor_assoc p, BitVec.xor_self, BitVec.zero_xor]
  unfold crcShift
  rw [BitVec.getLsbD_xor, hshift]
  cases x.getLsbD 0 <;> cases y.getLsbD 0
  · rfl
  · exact BitVec.xor_assoc ..
  · simp only [Bool.xor_false, if_true, Bool.false_eq_true, if_false]
    ac_rfl
  · exact (hpoly ..).symm

/-- The top bit after a shift is the bit that was shifted out: the polynomial has it, the shifted word does not. -/
theorem getLsbD_crcShift_top (x : Word) : (crcShift x).getLsbD 31 = x.getLsbD 0 := by
  unfold crcShift
  cases x.getLsbD 0 <;> simp

/-- A shift loses no information: its top bit says whether the polynomial was xored in. -/
theorem crcShift_injective : Function.Injective crcShift := by
  intro x y h
  have hlow : x.getLsbD 0 = y.getLsbD 0 := by rw [← getLsbD_crcShift_top, h, getLsbD_crcShift_top]
  have hhigh : x >>> 1 = y >>> 1 := by
    unfold crcShift at h
    rw [hlow] at h
    split at h
    · exact (BitVec.xor_left_inj _).1 h
    · exact h
  apply BitVec.eq_of_getLsbD_eq
  intro j hj
  cases j with
  | zero => exact hlow
  | succ j => simpa [Nat.add_comm] using congrArg (BitVec.getLsbD · j) hhigh

theorem crcShifts_zero (n : Nat) : crcShifts n 0#32 = 0#32 := by
  rw [crcShifts_eq_iterate]
  exact Function.iterate_fixed (by decide) n

theorem crcShifts_eq_zero {n : Nat} {s : Word} : crcShifts n s = 0#32 ↔ s = 0#32 := by
  refine ⟨fun h => crcShift_injective.iterate n ?_, fun h => h ▸ crcShifts_zero n⟩
  rw [← crcShifts_eq_iterate, ← crcShifts_eq_iterate, h, crcShifts_zero]

/-! ## Bit streams (R246) -/

/-- The first `n` bits of a stream fed to a state one by one: each is xored into the low bit, then shifted. -/
def crcBits (n : Nat) (f : Nat → Bool) (s : Word) : Word :=
  match n with
  | 0 => s
  | n + 1 => crcBits n (fun i => f (i + 1)) (crcShift (s ^^^ bitAt (f 0) 0))

/-- The bits of a message, those of each byte least significant first; past its end there are none and 0 stands for
them. -/
def messageBit (l : List Byte) (i : Nat) : Bool := (l[i / 8]?.getD 0#8).getLsbD (i % 8)

theorem crcBits_add (m n : Nat) (f : Nat → Bool) (s : Word) :
    crcBits (m + n) f s = crcBits n (fun i => f (m + i)) (crcBits m f s) := by
  induction m generalizing f s with
  | zero => simp [crcBits]
  | succ m ih =>
    rw [Nat.add_right_comm]
    simp only [crcBits, ih, Nat.add_right_comm m _ 1]

/-- Two streams fed to two states end in states whose xor is that of the xored streams. -/
theorem crcBits_xor (n : Nat) (f g : Nat → Bool) (s t : Word) :
    crcBits n f s ^^^ crcBits n g t = crcBits n (fun i => f i ^^ g i) (s ^^^ t) := by
  induction n generalizing f g s t with
  | zero => rfl
  | succ n ih =>
    have hbit : bitAt (f 0) 0 ^^^ bitAt (g 0) 0 = bitAt (f 0 ^^ g 0) 0 := by
      cases f 0 <;> cases g 0 <;> rfl
    simp only [crcBits, ih, ← crcShift_xor, ← hbit]
    congr 2
    ac_rfl

/-- A shift feeds the low bit of a word and keeps its others for the shifts after it. -/
theorem crcShift_xor_word (s w : Word) :
    crcShift (s ^^^ w) = crcShift (s ^^^ bitAt (w.getLsbD 0) 0) ^^^ w >>> 1 := by
  have hrest : crcShift (bitAt (w.getLsbD 0) 0 ^^^ w) = w >>> 1 := by
    have hlow : (bitAt (w.getLsbD 0) 0 ^^^ w).getLsbD 0 = false := by
      rw [BitVec.getLsbD_xor, getLsbD_bitAt _ _ (by omega)]
      simp
    have hbit : bitAt (w.getLsbD 0) 0 >>> 1 = 0#32 := by
      cases w.getLsbD 0 <;> decide
    rw [crcShift, hlow, if_neg Bool.false_ne_true, BitVec.ushiftRight_xor_distrib, hbit, BitVec.zero_xor]
  rw [← hrest, ← crcShift_xor, BitVec.xor_assoc, ← BitVec.xor_assoc (bitAt _ _), BitVec.xor_self, BitVec.zero_xor]

/-- A word whose bits are the first `n` of a stream, fed at once. -/
theorem crcBits_eq_shifts {n : Nat} {f : Nat → Bool} {w : Word}
    (hw : ∀ i, w.getLsbD i = (decide (i < n) && f i)) (s : Word) :
    crcBits n f s = crcShifts n (s ^^^ w) := by
  induction n generalizing f w s with
  | zero =>
    have hzero : w = 0#32 := BitVec.eq_of_getLsbD_eq fun i _ => by simp [hw i]
    simp [crcBits, crcShifts, hzero]
  | succ n ih =>
    have hfirst : w.getLsbD 0 = f 0 := by rw [hw 0]; simp
    have hrest (i : Nat) : (w >>> 1).getLsbD i = (decide (i < n) && f (i + 1)) := by
      rw [BitVec.getLsbD_ushiftRight, hw, Nat.add_comm]
      simp
    rw [crcBits, crcShifts, crcShift_xor_word s w, hfirst]
    exact ih hrest _

/-- The update by a byte feeds its eight bits. -/
theorem crcByte_eq_bits (s : Word) (b : Byte) : crcByte s b = crcBits 8 b.getLsbD s := by
  refine (crcBits_eq_shifts (w := b.setWidth 32) (fun i => ?_) s).symm
  rw [BitVec.getLsbD_setWidth]
  by_cases h8 : i < 8
  · have h32 : i < 32 := by omega
    simp [h8, h32]
  · simp [h8, BitVec.getLsbD_of_ge b i (by omega)]

/-- Only the bits that are fed count. -/
theorem crcBits_congr {n : Nat} {f g : Nat → Bool} (h : ∀ i < n, f i = g i) (s : Word) :
    crcBits n f s = crcBits n g s := by
  induction n generalizing f g s with
  | zero => rfl
  | succ n ih =>
    rw [crcBits, crcBits, h 0 (by omega)]
    exact ih (fun i hi => h (i + 1) (by omega)) _

theorem messageBit_cons (b : Byte) (l : List Byte) {i : Nat} (hi : i < 8) : messageBit (b :: l) i = b.getLsbD i := by
  simp [messageBit, Nat.div_eq_of_lt hi, Nat.mod_eq_of_lt hi]

theorem messageBit_cons_add (b : Byte) (l : List Byte) (i : Nat) : messageBit (b :: l) (8 + i) = messageBit l i := by
  have hdiv : (8 + i) / 8 = i / 8 + 1 := by omega
  rw [messageBit, hdiv, Nat.add_mod_left]
  rfl

/-- Past the end of a message its bits are 0. -/
theorem messageBit_of_ge {l : List Byte} {i : Nat} (hi : 8 * l.length ≤ i) : messageBit l i = false := by
  have hnone : l[i / 8]? = none := List.getElem?_eq_none (by omega)
  simp [messageBit, hnone]

/-- Messages of one length with the same bits are the same. -/
theorem eq_of_messageBit_eq {m m' : List Byte} (hlen : m.length = m'.length)
    (h : ∀ i, messageBit m i = messageBit m' i) : m = m' := by
  refine List.ext_getElem hlen fun j hj hj' => BitVec.eq_of_getLsbD_eq fun i hi => ?_
  have hdiv : (8 * j + i) / 8 = j := by omega
  have hmod : (8 * j + i) % 8 = i := by omega
  simpa [messageBit, hdiv, hmod, hj, hj'] using h (8 * j + i)

/-- Bytes are fed bit by bit. -/
theorem crcFeed_eq_bits (s : Word) (l : List Byte) : crcFeed s l = crcBits (8 * l.length) (messageBit l) s := by
  induction l generalizing s with
  | nil => rfl
  | cons b l ih =>
    have hfirst : crcBits 8 (messageBit (b :: l)) s = crcByte s b :=
      (crcBits_congr (fun _ hi => messageBit_cons b l hi) s).trans (crcByte_eq_bits s b).symm
    have hlen : 8 * (b :: l).length = 8 + 8 * l.length := by simp only [List.length_cons]; omega
    rw [hlen, crcBits_add, hfirst]
    simp only [messageBit_cons_add]
    exact ih _

/-! ## Short bursts (R248) -/

/-- Bits that are 0 are shifts alone. -/
theorem crcBits_of_false {n : Nat} {f : Nat → Bool} (hf : ∀ i < n, f i = false) (s : Word) :
    crcBits n f s = crcShifts n s := by
  have hword (i : Nat) : (0#32).getLsbD i = (decide (i < n) && f i) := by
    by_cases h : i < n
    · simp [hf i h]
    · simp [h]
  simpa using crcBits_eq_shifts hword s

/-- The 32 bits of a stream from place `k` on, as a word. -/
def streamWord (f : Nat → Bool) (k : Nat) : Word := BitVec.ofFnLE fun j : Fin 32 => f (k + j)

theorem getLsbD_streamWord (f : Nat → Bool) (k j : Nat) :
    (streamWord f k).getLsbD j = (decide (j < 32) && f (k + j)) := by
  rw [streamWord, BitVec.getLsbD_ofFnLE]
  by_cases hj : j < 32 <;> simp [hj]

/-- A stream whose bits all lie within 32 consecutive places leaves a state of zero only where it has no bit: up to the
burst the state stays zero, the burst is a word xored into it, and shifts lose nothing. -/
theorem burst_eq_false {f : Nat → Bool} {k n : Nat} (hf : ∀ i, f i = true → k ≤ i ∧ i < k + 32)
    (h : crcBits (k + (32 + n)) f 0#32 = 0#32) (i : Nat) : f i = false := by
  have hout {j : Nat} (hj : ¬ (k ≤ j ∧ j < k + 32)) : f j = false := Bool.eq_false_iff.2 fun hj' => hj (hf j hj')
  have hbefore : crcBits k f 0#32 = 0#32 :=
    (crcBits_of_false (fun j hj => hout (by omega)) _).trans (crcShifts_zero k)
  have hburst : crcBits 32 (fun j => f (k + j)) 0#32 = crcShifts 32 (streamWord f k) := by
    rw [crcBits_eq_shifts (getLsbD_streamWord f k), BitVec.zero_xor]
  rw [crcBits_add, crcBits_add, hbefore, hburst, crcBits_of_false (fun j _ => hout (by omega)), crcShifts_eq_zero,
    crcShifts_eq_zero] at h
  by_cases hi : k ≤ i ∧ i < k + 32
  · have hbit := getLsbD_streamWord f k (i - k)
    have hlt : i - k < 32 := by omega
    rw [h, Nat.add_sub_cancel' hi.1] at hbit
    simpa [hlt] using hbit.symm
  · exact hout hi

/-- The places in which two messages differ. -/
def messageDiff (m m' : List Byte) (i : Nat) : Bool := messageBit m i ^^ messageBit m' i

theorem messageDiff_eq_false {m m' : List Byte} {i : Nat} :
    messageDiff m m' i = false ↔ messageBit m i = messageBit m' i := by
  simp [messageDiff]

/-- Messages of one length and one CRC differ by a stream that leaves a state of zero. -/
theorem crcBits_messageDiff {m m' : List Byte} (hlen : m.length = m'.length) (h : crc32 m = crc32 m') :
    crcBits (8 * m.length) (messageDiff m m') 0#32 = 0#32 := by
  have hfeed : crcFeed 0xFFFFFFFF#32 m = crcFeed 0xFFFFFFFF#32 m' := (BitVec.xor_left_inj _).1 h
  rw [crcFeed_eq_bits, crcFeed_eq_bits, ← hlen] at hfeed
  have hxor := crcBits_xor (8 * m.length) (messageBit m) (messageBit m') 0xFFFFFFFF#32 0xFFFFFFFF#32
  rw [hfeed, BitVec.xor_self, BitVec.xor_self] at hxor
  exact hxor.symm

/-- Settles O12: the difference of two messages with one CRC leaves a state of zero, also after the zeros that follow
it, so its burst is empty. -/
theorem crcDetectsShortBurst : Obligations.CrcDetectsShortBurst := by
  intro m m' k bit hlen hne hburst heq
  have hdiff (i : Nat) (hi : messageDiff m m' i = true) : k ≤ i ∧ i < k + 32 := hburst i (bne_iff_ne.1 hi)
  have hpast (i : Nat) : messageDiff m m' (8 * m.length + i) = false :=
    messageDiff_eq_false.2 ((messageBit_of_ge (by omega)).trans (messageBit_of_ge (by omega)).symm)
  have hpadded : crcBits (8 * m.length + (k + 32)) (messageDiff m m') 0#32 = 0#32 := by
    rw [crcBits_add, crcBits_messageDiff hlen heq, crcBits_of_false fun i _ => hpast i, crcShifts_zero]
  have hsum : 8 * m.length + (k + 32) = k + (32 + 8 * m.length) := by omega
  rw [hsum] at hpadded
  exact hne (eq_of_messageBit_eq hlen fun i => messageDiff_eq_false.1 (burst_eq_false hdiff hpadded i))

end Sys2Proof.Machine

/-! The laws of the header's bytes and of the chunks of a program, and the statements of spec/44_object_store.md that
rest on them. -/

namespace Sys2Proof.Machine

/-! ## The chunks of a program (R268) -/

/-- The bytes of a string, each with its address, the string standing at `a`. -/
def placedBytes (a : Nat) (l : List Byte) : List (Nat × Byte) := l.zipIdx.map fun x => (a + x.2, x.1)

theorem placedBytes_append (a : Nat) (l l' : List Byte) :
    placedBytes a (l ++ l') = placedBytes a l ++ placedBytes (a + l.length) l' := by
  simp [placedBytes, List.zipIdx_append, List.zipIdx_eq_map_add (i := l.length), Nat.add_assoc,
    Nat.add_comm l.length]

/-- What the next chunk of a string takes is not nothing, and fits what is left of its page. -/
theorem chunkLength_pos_and_fits {page : Nat} (hpage : 0 < page) (a : Nat) {l : List Byte} (hl : l ≠ []) :
    0 < min l.length (page - a % page) ∧ a % page + min l.length (page - a % page) ≤ page := by
  have hroom : a % page < page := Nat.mod_lt a hpage
  have hsome : 0 < l.length := List.length_pos_iff.2 hl
  omega

/-- A chunk takes a byte at least and ends with its page at the latest, however many chunks the string is given. -/
theorem chunkSteps_inPage {page : Nat} (hpage : 0 < page) (fuel a : Nat) (l : List Byte) :
    ∀ c ∈ chunkSteps page fuel a l, c.2 ≠ [] ∧ c.1 % page + c.2.length ≤ page := by
  fun_induction chunkSteps page fuel a l with
  | case1 | case2 => exact List.forall_mem_nil _
  | case3 a l k hl n ih =>
    obtain ⟨hpos, hfits⟩ := chunkLength_pos_and_fits hpage a (mt List.isEmpty_iff.2 hl)
    have hn : (l.take n).length = n := List.length_take_of_le (Nat.min_le_left ..)
    exact List.forall_mem_cons.2 ⟨⟨List.ne_nil_of_length_pos (hn.symm ▸ hpos), hn.symm ▸ hfits⟩, ih⟩

/-- Every chunk takes a byte at least, so as many chunks as there are bytes carry the whole string. -/
theorem flatMap_placedBytes_chunkSteps {page : Nat} (hpage : 0 < page) {fuel a : Nat} {l : List Byte}
    (hfuel : l.length ≤ fuel) :
    (chunkSteps page fuel a l).flatMap (fun c => placedBytes c.1 c.2) = placedBytes a l := by
  fun_induction chunkSteps page fuel a l with
  | case1 a l => rw [List.eq_nil_of_length_eq_zero (Nat.le_zero.1 hfuel)]; rfl
  | case2 a l k hl => rw [List.isEmpty_iff.1 hl]; rfl
  | case3 a l k hl n ih =>
    obtain ⟨hpos, -⟩ := chunkLength_pos_and_fits hpage a (mt List.isEmpty_iff.2 hl)
    have hn : (l.take n).length = n := List.length_take_of_le (Nat.min_le_left ..)
    have hrest : (l.drop n).length ≤ k := by rw [List.length_drop]; omega
    have happend := placedBytes_append a (l.take n) (l.drop n)
    rw [List.take_append_drop, hn] at happend
    rw [List.flatMap_cons, ih hrest, happend]

/-- Settles O56, from the room that every chunk leaves in its page and the bytes that as many chunks carry. -/
theorem chunksStayInPage : Obligations.ChunksStayInPage := fun _ a l hpage =>
  ⟨chunkSteps_inPage hpage l.length a l, flatMap_placedBytes_chunkSteps hpage (Nat.le_refl l.length)⟩

/-! ## The bytes of a header (R262) -/

@[simp] theorem ofLeBytes_leBytes_four (v : Word) : ofLeBytes (leBytes 4 v) = v :=
  (ofLeBytes_leBytes .b4 v).trans (BitVec.and_allOnes)

/-- The low 16 bits of a word are those of its first two bytes. -/
theorem setWidth_setWidth_sixteen (v : Word) : (v.setWidth 16).setWidth 32 = v &&& AccessSize.b2.mask := by
  apply BitVec.eq_of_getLsbD_eq
  intro j hj
  rw [BitVec.getLsbD_and, AccessSize.getLsbD_mask _ hj, Bool.and_comm]
  have hbits : 8 * AccessSize.b2.bytes = 16 := rfl
  simp [hj, hbits]

@[simp] theorem ofLeBytes_leBytes_two (v : BitVec 16) : ofLeBytes (leBytes 2 (v.setWidth 32)) = v.setWidth 32 := by
  have hlow : (v.setWidth 32).setWidth 16 = v := BitVec.setWidth_setWidth_of_le v (by omega) |>.trans v.setWidth_eq
  exact (ofLeBytes_leBytes .b2 _).trans (by rw [← setWidth_setWidth_sixteen, hlow])

theorem leBytes_ofLeBytes {n : AccessSize} {l : List Byte} (hl : l.length = n.bytes) :
    leBytes n.bytes (ofLeBytes l) = l := by
  have hn := n.bytes_le_four
  refine List.ext_getElem (by simp [hl]) fun k hk hk' => ?_
  simpa [leBytes, hk'] using extractLsb'_ofLeBytes l (k := k) (by omega)

/-! ### The fields of a header -/

/-- A field that begins past the first one is a field of what follows it. -/
theorem headerField_append_past {n o : Nat} (h : n ≤ o) (v : Word) (l : List Byte) (k : Nat) :
    headerField (leBytes n v ++ l) o k = headerField l (o - n) k := by
  have hpast : (leBytes n v).drop o = [] := List.drop_eq_nil_of_le (by simpa using h)
  simp [headerField, List.drop_append, hpast]

/-- The first field is the word whose bytes stand there. -/
theorem headerField_append_first (n : Nat) (v : Word) (l : List Byte) :
    headerField (leBytes n v ++ l) 0 n = ofLeBytes (leBytes n v) := by
  simp [headerField]

theorem headerField_last (n : Nat) (v : Word) : headerField (leBytes n v) 0 n = ofLeBytes (leBytes n v) := by
  simpa using headerField_append_first n v []

/-- Reading the bytes of a header gives its fields back. -/
@[simp] theorem Header.ofBytes_toBytes (h : Header) : Header.ofBytes h.toBytes = h := by
  simp [Header.ofBytes, Header.toBytes, headerField_append_past, headerField_append_first, headerField_last]

/-- The bytes of a field that lies inside are cut out unchanged. -/
theorem leBytes_headerField {n : AccessSize} {o : Nat} {l : List Byte} (h : o + n.bytes ≤ l.length) :
    leBytes n.bytes (headerField l o n.bytes) = (l.drop o).take n.bytes :=
  leBytes_ofLeBytes (by rw [List.length_take, List.length_drop]; omega)

/-- A field of two bytes loses nothing in 16 bits. -/
theorem setWidth_headerField_two (l : List Byte) (o : Nat) :
    ((headerField l o 2).setWidth 16).setWidth 32 = headerField l o 2 :=
  (setWidth_setWidth_sixteen _).trans (ofLeBytes_and_mask (List.length_take_le ..))

/-- Writing the header that 28 bytes hold gives the bytes back: the fields lie end to end. -/
theorem Header.toBytes_ofBytes {l : List Byte} (hl : l.length = 28) : (Header.ofBytes l).toBytes = l := by
  have hword (o : Nat) (h : o + 4 ≤ 28) : leBytes 4 (headerField l o 4) = (l.drop o).take 4 :=
    leBytes_headerField (n := .b4) (hl ▸ h)
  have hhalf (o : Nat) (h : o + 2 ≤ 28) : leBytes 2 (headerField l o 2) = (l.drop o).take 2 :=
    leBytes_headerField (n := .b2) (hl ▸ h)
  simp only [Header.toBytes, Header.ofBytes, setWidth_headerField_two]
  rw [hword 0 (by omega), hhalf 4 (by omega), hhalf 6 (by omega), hword 8 (by omega), hword 12 (by omega),
    hword 16 (by omega), hword 20 (by omega), hword 24 (by omega), List.drop_zero]
  simp only [← List.take_add, Nat.reduceAdd]
  exact List.take_of_length_le (Nat.le_of_eq hl)

@[simp] theorem Header.toBytes_length (h : Header) : h.toBytes.length = 28 := by
  simp [Header.toBytes]

/-! ## The CRC of a header (R263) -/

/-- The last four bytes are the header's CRC field. -/
theorem Header.drop_toBytes (h : Header) : h.toBytes.drop 24 = leBytes 4 h.headerCrc :=
  List.drop_left' (by simp)

/-- The CRC of a header is that of its first 24 bytes with four zero bytes after them. -/
theorem Header.crc_eq (h : Header) : h.crc = crc32 (h.toBytes.take 24 ++ leBytes 4 0#32) := by
  rw [Header.toBytes, List.take_left' (by simp)]
  rfl

/-- Putting a byte where it does not stand changes a string. -/
theorem set_ne_self {l : List Byte} {k : Nat} {x : Byte} (hk : k < l.length) (hx : l[k]? ≠ some x) : l.set k x ≠ l :=
  fun h => hx (by rw [← h, List.getElem?_set_self hk])

/-- A change of one byte of a message changes its CRC: it is a burst of 8 bits (R248). -/
theorem crc32_set_ne {m : List Byte} {k : Nat} {x : Byte} (hk : k < m.length) (hx : m[k]? ≠ some x) :
    crc32 (m.set k x) ≠ crc32 m := by
  refine crcDetectsShortBurst (m.set k x) m (8 * k) List.length_set (set_ne_self hk hx) fun i hi => ?_
  have hbyte : k = i / 8 := by
    by_contra hne
    exact hi (by simp only [List.getElem?_set_ne hne])
  omega

/-- A header whose CRC field is right has it wrong after a change of one byte: before the field the change alters the
CRC alone, inside it the field alone. -/
theorem Header.headerCrc_ne_of_set {h h' : Header} {k : Nat} {x : Byte} (hk : k < 28) (hx : h.toBytes[k]? ≠ some x)
    (hset : h'.toBytes = h.toBytes.set k x) (hcrc : h.headerCrc = h.crc) : h'.headerCrc ≠ h'.crc := by
  by_cases hbefore : k < 24
  · have hfield : h'.headerCrc = h.headerCrc := by
      rw [← ofLeBytes_leBytes_four h'.headerCrc, ← h'.drop_toBytes, hset, List.drop_set_of_lt hbefore, h.drop_toBytes,
        ofLeBytes_leBytes_four]
    have hk' : k < (h.toBytes.take 24).length := by simpa using hbefore
    have hx' : (h.toBytes.take 24 ++ leBytes 4 0#32)[k]? ≠ some x := by
      rwa [List.getElem?_append_left hk', List.getElem?_take_of_lt hbefore]
    have hchanged := crc32_set_ne (by simp; omega) hx'
    rw [List.set_append_left _ _ hk', ← List.take_set, ← hset, ← h'.crc_eq, ← h.crc_eq] at hchanged
    rw [hfield, hcrc]
    exact hchanged.symm
  · intro hcrc'
    have htake : h'.toBytes.take 24 = h.toBytes.take 24 := by rw [hset, List.take_set_of_le (by omega)]
    have hdrop : h'.toBytes.drop 24 = h.toBytes.drop 24 := by
      rw [h'.drop_toBytes, h.drop_toBytes, hcrc', hcrc, h'.crc_eq, h.crc_eq, htake]
    have hsame : h'.toBytes = h.toBytes := by
      rw [← List.take_append_drop 24 h'.toBytes, htake, hdrop, List.take_append_drop]
    exact set_ne_self (by simpa using hk) hx (hset ▸ hsame)

/-! ## What a read makes of a header (R272, R273) -/

/-- One byte that is not erased is enough for a header that is not. -/
theorem headerErased_eq_false {l : List Byte} {i : Nat} {b : Byte} (hi : l[i]? = some b) (hb : b ≠ erasedByte) :
    headerErased l = false :=
  List.all_eq_false.2 ⟨b, List.mem_of_getElem? hi, by simpa using hb⟩

/-- A header whose CRC field is wrong is not sound. -/
theorem headerSound_eq_false {q : StoreParams} {h : Header} (hcrc : h.headerCrc ≠ h.crc) : headerSound q h = false := by
  simp [headerSound, hcrc]

section

variable (q : StoreParams) (payload : List Byte) (tag ver : Word)

/-- The CRC field of a built header is right: it is computed with the field zero, and so does not depend on it. -/
theorem buildHeader_headerCrc : (buildHeader q payload tag ver).headerCrc = (buildHeader q payload tag ver).crc := rfl

theorem buildHeader_payloadLength (hlen : payload.length < 2 ^ 32) :
    (buildHeader q payload tag ver).payloadLength.toNat = payload.length := by
  simpa [buildHeader] using hlen

/-- A built header is sound (R273). -/
theorem headerSound_buildHeader (hpos : 1 ≤ payload.length) (hlen : payload.length < 2 ^ 32) :
    headerSound q (buildHeader q payload tag ver) = true := by
  rw [headerSound, buildHeader_payloadLength q payload tag ver hlen, ← buildHeader_headerCrc]
  simp [buildHeader, hpos]

/-- The bytes 5 and 6 of a built header, of its length and its flags, are zero. -/
theorem buildHeader_zero_bytes : (buildHeader q payload tag ver).toBytes[5]? = some 0#8 ∧
    (buildHeader q payload tag ver).toBytes[6]? = some 0#8 := by
  simp [buildHeader, Header.toBytes, leBytes]

/-- A built header does not read as erased, and no change of one byte makes it do so: one of two zero bytes stays. -/
theorem headerErased_set_buildHeader (k : Nat) (x : Byte) :
    headerErased ((buildHeader q payload tag ver).toBytes.set k x) = false := by
  obtain ⟨h5, h6⟩ := buildHeader_zero_bytes q payload tag ver
  by_cases hk : k = 5
  · exact headerErased_eq_false (i := 6) (by rwa [List.getElem?_set_ne (by omega)]) (by decide)
  · exact headerErased_eq_false (i := 5) (by rwa [List.getElem?_set_ne hk]) (by decide)

end

/-- Settles O55: a built header is sound and reads back as it was written; a change of one byte leaves it neither
erased nor with a right CRC. -/
theorem headerSoundAndProtected : Obligations.HeaderSoundAndProtected := by
  intro p q a cap payload tag ver _ hpos hlen
  refine ⟨fun hcap hfits => ?_, fun k x hk hx => ?_⟩
  · have herased := headerErased_eq_false (buildHeader_zero_bytes q payload tag ver).1 (by decide)
    have hroom : ¬ cap < payload.length := by omega
    have hinside : ¬ p.capacity < a + headerSize + payload.length := by rw [headerSize]; omega
    simp [readHeader, herased, headerSound_buildHeader q payload tag ver hpos hlen,
      buildHeader_payloadLength q payload tag ver hlen, hroom, hinside]
  · have hbytes := Header.toBytes_ofBytes (l := (buildHeader q payload tag ver).toBytes.set k x) (by simp)
    have hcrc := Header.headerCrc_ne_of_set hk hx hbytes (buildHeader_headerCrc q payload tag ver)
    simp [readHeader, headerErased_set_buildHeader, headerSound_eq_false hcrc]

end Sys2Proof.Machine

/-! The laws of the accesses that the hardware refuses, and the statements of spec/60_exceptions.md that follow from
them. -/

namespace Sys2Proof

/-! ## The accesses that the decoder refuses (R22, R23, R67, R74) -/

/-- The widths in bytes that R67 admits. -/
def isAccessWidth (n : Nat) : Prop := n = 1 ∨ n = 2 ∨ n = 4

@[simp] theorem isAccessWidth_bytes (n : AccessSize) : isAccessWidth n.bytes := by
  cases n <;> simp [isAccessWidth, AccessSize.bytes]

theorem exists_bytes_of_isAccessWidth {n : Nat} (h : isAccessWidth n) : ∃ a : AccessSize, n = a.bytes := by
  obtain rfl | rfl | rfl := h
  exacts [⟨.b1, rfl⟩, ⟨.b2, rfl⟩, ⟨.b4, rfl⟩]

theorem AccessSize.ofBytes_eq_none {n : Nat} (h : ¬ isAccessWidth n) : AccessSize.ofBytes n = none := by
  simp only [isAccessWidth, not_or] at h
  obtain ⟨h1, h2, h4⟩ := h
  simp [AccessSize.ofBytes, h1, h2, h4]

/-- The offsets of the registers (R22). -/
def registerOffsets : List Nat :=
  [0x000, 0x004, 0x008, 0x014, 0x018, 0x01C, 0x020, 0x030, 0x034, 0x038, 0x080, 0x084, 0x088, 0x08C, 0x090, 0x094,
    0x098, 0x09C, 0x0C0, 0x0C8, 0x0CC, 0x0D0, 0x0D4]

/-- The offsets of the read-only registers STATUS, SEQSR, SEQID, CRCRESULT and CRCSTATUS (R22). -/
def readOnlyOffsets : List Nat := [0x020, 0x098, 0x09C, 0x0CC, 0x0D4]

theorem decodeSeqctrl_ne_refused (v : Word) (r : FaultReason) : decodeSeqctrl v ≠ .refused r := by
  unfold decodeSeqctrl
  split <;> exact Decoded.noConfusion

/-- A 4-byte read is refused where no register is. -/
theorem decodeRegRead_refused_iff {off : Nat} {r : FaultReason} :
    decodeRegRead off = .refused r ↔ off ∉ registerOffsets ∧ r = .reservedOffset := by
  unfold decodeRegRead
  split
  case h_24 => simp_all [registerOffsets, eq_comm]
  all_goals simp [registerOffsets]

/-- A 4-byte write is refused where no register is, and at the read-only registers. -/
theorem decodeRegWrite_refused_iff {off : Nat} {v : Word} {r : FaultReason} :
    decodeRegWrite off v = .refused r ↔
      (off ∉ registerOffsets ∧ r = .reservedOffset) ∨ (off ∈ readOnlyOffsets ∧ r = .readOnlyWrite) := by
  unfold decodeRegWrite
  split
  case h_24 => simp_all [registerOffsets, readOnlyOffsets, eq_comm]
  all_goals simp [registerOffsets, readOnlyOffsets, @eq_comm _ r, decodeSeqctrl_ne_refused, ite_eq_iff]

section

variable {h : HostTuple} {r : FaultReason}

theorem decodeWindow_refused_iff :
    decodeWindow h = .refused r ↔
      (h.dir = .fetch ∧ r = .fetchFromWindow) ∨ (h.dir ≠ .fetch ∧ ¬ isAccessWidth h.size ∧ r = .badWidth) := by
  obtain ⟨dir, size, space, off, value⟩ := h
  by_cases hsize : isAccessWidth size
  · obtain ⟨n, rfl⟩ := exists_bytes_of_isAccessWidth hsize
    cases dir <;> simp [decodeWindow, @eq_comm _ r]
  · cases dir <;> simp [decodeWindow, AccessSize.ofBytes_eq_none hsize, hsize, @eq_comm _ r]

/-- SEQBUF refuses a width of no access size, then a misaligned access (R42, R67). -/
theorem decodeRegs_seqbuf_refused_iff (hbuf : 0x100 ≤ h.off.toNat) :
    decodeRegs h = .refused r ↔
      (¬ isAccessWidth h.size ∧ r = .badWidth) ∨
        (isAccessWidth h.size ∧ ¬ (h.off.toNat % h.size = 0 ∧ h.off.toNat + h.size ≤ 0x200) ∧ r = .misaligned) := by
  obtain ⟨dir, size, space, off, value⟩ := h
  simp only [decodeRegs, hbuf, if_true]
  by_cases hsize : isAccessWidth size
  · obtain ⟨n, rfl⟩ := exists_bytes_of_isAccessWidth hsize
    by_cases hal : off.toNat % n.bytes = 0 ∧ off.toNat + n.bytes ≤ 0x200
    · simp [hal, ite_eq_iff]
    · simp [hal, @eq_comm _ r]
  · simp [AccessSize.ofBytes_eq_none hsize, hsize, @eq_comm _ r]

/-- CRCDATA refuses a width of no access size, then an access past its first byte (R67, R99). -/
theorem decodeRegs_crcdata_refused_iff (hcrc : 0x0C4 ≤ h.off.toNat ∧ h.off.toNat ≤ 0x0C7) :
    decodeRegs h = .refused r ↔
      (¬ isAccessWidth h.size ∧ r = .badWidth) ∨ (isAccessWidth h.size ∧ h.off.toNat ≠ 0x0C4 ∧ r = .misaligned) := by
  have hbuf : ¬ 0x100 ≤ h.off.toNat := by omega
  obtain ⟨dir, size, space, off, value⟩ := h
  simp only [decodeRegs, hbuf, hcrc, and_self, if_true, if_false]
  by_cases hsize : isAccessWidth size
  · obtain ⟨n, rfl⟩ := exists_bytes_of_isAccessWidth hsize
    by_cases hfirst : off.toNat = 0x0C4
    · simp [hfirst, ite_eq_iff]
    · simp [hfirst, @eq_comm _ r]
  · simp [AccessSize.ofBytes_eq_none hsize, hsize, @eq_comm _ r]

/-- The other places take 4 bytes alone, and refuse as the register there (R22, R23). -/
theorem decodeRegs_register_refused_iff (hbuf : ¬ 0x100 ≤ h.off.toNat)
    (hcrc : ¬ (0x0C4 ≤ h.off.toNat ∧ h.off.toNat ≤ 0x0C7)) :
    decodeRegs h = .refused r ↔
      (h.size ≠ 4 ∧ r = .badWidth) ∨ (h.size = 4 ∧ h.off.toNat ∉ registerOffsets ∧ r = .reservedOffset) ∨
        (h.size = 4 ∧ h.dir = .write ∧ h.off.toNat ∈ readOnlyOffsets ∧ r = .readOnlyWrite) := by
  simp only [decodeRegs, hbuf, hcrc, if_false]
  by_cases hsize : h.size = 4
  · by_cases hw : h.dir = .write
    · simp [hsize, hw, decodeRegWrite_refused_iff]
    · simp [hsize, hw, decodeRegRead_refused_iff]
  · simp [hsize, @eq_comm _ r]

end

end Sys2Proof

namespace Sys2Proof.Machine

/-! ## A refused access of the host (R290, R291) -/

/-- On the host's turn an access that the decoder refuses raises its fault and nothing else (R290, R291). -/
theorem step_host_refused {s : State} {x : Input} {rest : List Input} {r : FaultReason} (ha : s.nextAgent = .host)
    (hx : s.inputs = x :: rest) (hr : fetch s.cfg x = .decoded (.refused r)) :
    step s = .next (State.raiseFault r { s.advance with inputs := rest }) := by
  rw [step_host_input ha hx, hr]
  rfl

/-- Settles O5: the step raises the decoder's fault, and the decoder refuses at each place as that place's law says. -/
theorem refusedAccessFaults : Obligations.RefusedAccessFaults := by
  refine ⟨fun s x rest r ha hx hr => ?_, fun h r => ?_⟩
  · simp [step_host_refused ha hx hr, State.raiseFault, insertReason]
  · obtain ⟨dir, size, space, off, value⟩ := h
    cases space with
    | window => exact decodeWindow_refused_iff
    | regs =>
      dsimp only [decodeHost]
      split_ifs with hbuf hcrc
      · exact decodeRegs_seqbuf_refused_iff hbuf
      · exact decodeRegs_crcdata_refused_iff hcrc
      · exact decodeRegs_register_refused_iff hbuf hcrc

/-! ## The faults of a window access, in their order (R293) -/

theorem windowCheck_misaligned {s : State} (w : Bool) {o : Word} {n : Nat}
    (h : ¬ (o.toNat % n = 0 ∧ o.toNat + n ≤ s.cfg.winSize)) : windowCheck s w o n = .error .misaligned := by
  have halign := Bool.eq_false_iff.2 (mt windowAligned_iff.1 h)
  simp [windowCheck, halign]

theorem windowCheck_busy {s : State} (w : Bool) {o : Word} {n : Nat} (halign : windowAligned s.cfg o n = true)
    (hb : s.fcs.busy = true) : windowCheck s w o n = .error .sequencerBusy := by
  simp [windowCheck, halign, hb]

theorem windowCheck_noFrame {s : State} (w : Bool) {o : Word} {n : Nat} (halign : windowAligned s.cfg o n = true)
    (hb : s.fcs.busy = false) (hframe : s.bpe.dataFrame = none) : windowCheck s w o n = .error .noFrame := by
  simp [windowCheck, halign, hb, hframe]

/-- Inside a data frame the read-back, the direction and the offset are checked, in this order. -/
theorem windowCheck_inFrame {s : State} (w : Bool) {o : Word} {n : Nat} {f : Frame} {isOpen : Bool}
    (halign : windowAligned s.cfg o n = true) (hb : s.fcs.busy = false)
    (hframe : s.bpe.dataFrame = some (f, isOpen)) :
    windowCheck s w o n =
      if s.bpe.syncPending then .error .syncMissing
      else if directionOk f.kind w = false then .error .wrongDirection
      else if offsetAllowed s.bpe f isOpen o = false then .error .notContiguous
      else .ok (f, isOpen) := by
  simp [windowCheck, halign, hb, hframe]

theorem dataFrame_eq_none {b : Bpe} (h : b.fstate = .idle ∨ b.fstate = .running) : b.dataFrame = none := by
  obtain h | h := h <;> rw [Bpe.dataFrame, h]

theorem dataFrame_eq_some {b : Bpe} {f : Frame} (hd : b.fdesc = some f) (h : b.fstate = .armed ∨ b.fstate = .opened) :
    b.dataFrame = some (f, decide (b.fstate = .opened)) := by
  obtain h | h := h <;> simp [Bpe.dataFrame, h, hd]

/-- An armed register frame takes offset 0 alone, an open frame its next offset alone (R127). -/
theorem offsetAllowed_eq_false {b : Bpe} {f : Frame} {o : Word}
    (h : (b.fstate = .armed ∧ f.kind.isMem = false ∧ o ≠ 0#32) ∨ (b.fstate = .opened ∧ o ≠ b.fnext)) :
    offsetAllowed b f (decide (b.fstate = .opened)) o = false := by
  obtain ⟨hf, hk, ho⟩ | ⟨hf, ho⟩ := h
  · simp [offsetAllowed, hf, hk, ho]
  · simp [offsetAllowed, hf, ho]

/-- A window access that a check refuses raises the check's fault and nothing else (R290). -/
theorem exec_window_error {s : State} {w : Bool} {n : AccessSize} {o : Word} (v : Word) {r : FaultReason}
    (h : windowCheck s w o n.bytes = .error r) :
    exec (if w then .winWrite n o v else .winRead n o) s = .next (s.raiseFault r) := by
  cases w
  · simp [exec, execWinRead, h]
  · simp [exec, execWinWrite, h]

/-- Settles O21: each clause is the outcome of the window's checks under its hypotheses. -/
theorem windowAccessRefused : Obligations.WindowAccessRefused := by
  intro n o v s w i refused
  have refuse {r : FaultReason} (h : windowCheck s w o n.bytes = .error r) : refused r := exec_window_error v h
  refine ⟨fun hal => refuse (windowCheck_misaligned w hal), fun hal => ?_⟩
  have halign := windowAligned_iff.2 hal
  refine ⟨fun hb => refuse (windowCheck_busy w halign hb), fun hb => ⟨fun hf => ?_, fun f hd hf => ?_⟩⟩
  · exact refuse (windowCheck_noFrame w halign hb (dataFrame_eq_none hf))
  have hcheck := windowCheck_inFrame w halign hb (dataFrame_eq_some hd hf)
  refine ⟨fun hsync => refuse ?_, fun hsync => ⟨fun hdir => refuse ?_, fun hdir => ?_⟩⟩
  · simp [hcheck, hsync]
  · simp [hcheck, hsync, directionOk, hdir]
  have hoff : offsetAllowed s.bpe f (decide (s.bpe.fstate = .opened)) o = false → refused .notContiguous :=
    fun ho => refuse (by simp [hcheck, hsync, directionOk, hdir, ho])
  exact ⟨fun hf hk ho => hoff (offsetAllowed_eq_false (.inl ⟨hf, hk, ho⟩)),
    fun hf ho => hoff (offsetAllowed_eq_false (.inr ⟨hf, ho⟩))⟩

end Sys2Proof.Machine

/-! The laws of the two resets, and the statements of spec/70_reset_and_hazards.md that follow from them. -/

namespace Sys2Proof.Machine

/-! ## The state after power-on (R320, R22) -/

/-- A device with R229's values and a well-formed array is sound, also on variant B (R210, R229). -/
theorem Dev.Sound.powerOn {p : Params} {m : FlashMem} (h : Memory.wf p.capacity m) : (Dev.powerOn p m).Sound p :=
  ⟨h, fun hB => by simp [Dev.powerOn, hB], rfl⟩

/-- Settles O6: each part of the machine is sound at power-on, and no frame, command or fault is there. -/
theorem invReset : Obligations.InvReset :=
  State.Inv.ofParts Bpe.Sound.powerOn (Fcs.Sound.powerOn _) (Dev.Sound.powerOn (wf_nil _)) rfl nofun List.nodup_nil

/-! ## The software reset (R321) -/

theorem csact_eq_false {b : Bpe} (h : b.fstate = .idle ∨ b.fstate = .armed) : b.csact = false := by
  obtain h | h := h <;> rw [Bpe.csact, h]

theorem csact_eq_true {b : Bpe} (h : b.fstate = .opened ∨ b.fstate = .running) : b.csact = true := by
  obtain h | h := h <;> rw [Bpe.csact, h]

theorem cutFrame_of_deselected {s : State} (h : s.bpe.csact = false) : s.cutFrame = s := by
  simp [State.cutFrame, h]

theorem cutFrame_of_selected {s : State} (h : s.bpe.csact = true) : s.cutFrame = s.devCut := by
  simp [State.cutFrame, h]

theorem softReset_device (s : State) : s.softReset.dev = s.cutFrame.dev ∧ s.softReset.draws = s.cutFrame.draws :=
  ⟨rfl, rfl⟩

/-- Settles O25: the registers are what the reset writes, and the device is what the cut of the frame leaves. -/
theorem softwareReset : Obligations.SoftwareReset := by
  intro s
  obtain ⟨hdev, hdraws⟩ := softReset_device s
  refine ⟨s.softReset, rfl, rfl, rfl, rfl, s.cutFrame_seqbuf, s.cutFrame_faults, s.cutFrame_clk, s.cutFrame_cfg,
    s.cutFrame_inputs, s.cutFrame_sched, rfl, fun hoff => ?_, fun hon => ?_⟩
  · rw [hdev, hdraws, cutFrame_of_deselected (csact_eq_false hoff)]
    exact ⟨rfl, rfl⟩
  · rw [hdev, hdraws, cutFrame_of_selected (csact_eq_true hon)]
    exact ⟨rfl, rfl, rfl⟩

/-! ## Free bytes (R10, R42, R210, R222) -/

theorem bufGet_bufOf (f : Nat → Byte) {i : Nat} (hi : i < 256) : bufGet (bufOf f) i = f i := by
  simp [bufGet, bufOf, hi]

/-- A read after a range of the array was filled. -/
theorem flashRead_fill {cap : Nat} {m : FlashMem} (vals : Nat → Byte) (lo n x : Nat) (h : Memory.wf cap m) :
    flashRead (flashFill cap vals lo n m) x =
      if lo ≤ x ∧ x < lo + n ∧ x < cap then vals x else flashRead m x := by
  induction n with
  | zero => rw [flashFill, if_neg (by omega)]
  | succ n ih =>
    rw [flashFill, flashRead_write _ _ _ (flashFill_wf vals lo n h), ih]
    by_cases hx : x = lo + n
    · subst hx
      by_cases hc : lo + n < cap <;> simp [hc]
    · rw [if_neg fun hc => hx hc.1]
      exact if_congr (by omega) rfl rfl

theorem flashRead_arbitrary (p : Params) (n : Nat) (d : Dev) {x : Nat} (hx : x < p.capacity) :
    flashRead (d.arbitrary p n).arr x = Config.freeByte n x :=
  (flashRead_fill _ _ _ _ (wf_nil _)).trans (if_pos ⟨x.zero_le, by omega, hx⟩)

/-- A byte of an array whose operation was abandoned is free or as before (R222). -/
theorem flashRead_abandonedArr_or {p : Params} (n : Nat) {d : Dev} (x : Nat) (h : Memory.wf p.capacity d.arr) :
    flashRead (abandonedArr p n d) x = Config.freeByte n x ∨
      flashRead (abandonedArr p n d) x = flashRead d.arr x := by
  cases hop : d.pending with
  | none => exact .inr (by rw [abandonedArr_idle n hop])
  | some op =>
    rw [abandonedArr, hop]
    exact (ite_eq_or_eq _ _ _).imp (flashRead_scatter _ _ x h).trans (flashRead_scatter _ _ x h).trans

/-! ## The power-on reset (R320, R229) -/

theorem dropFrame_of_stalled {s : State} (h : s.bpe.stalled = true) : s.dropFrame = s.devCut := by
  simp [State.dropFrame, h]

theorem dropFrame_of_not_stalled {s : State} (h : s.bpe.stalled = false) :
    s.dropFrame = { s with dev := { s.dev with cur := none } } := by
  simp [State.dropFrame, h]

/-- A power-on reset keeps the parameters, the clock and the fault record (R10, R54). -/
theorem powerOnReset_kept (d : Bool) (s : State) :
    (s.powerOnReset d).faults = s.faults ∧ (s.powerOnReset d).cfg = s.cfg ∧ (s.powerOnReset d).clk = s.clk := by
  cases d <;> exact ⟨s.dropFrame_faults, s.dropFrame_cfg, s.dropFrame_clk⟩

theorem powerOnReset_seqbuf (d : Bool) (s : State) :
    ∃ n, ∀ i, i < 256 → bufGet (s.powerOnReset d).seqbuf i = Config.freeByte n i :=
  ⟨_, fun _ hi => bufGet_bufOf _ hi⟩

theorem powerOnReset_irq (d : Bool) (s : State) : (s.powerOnReset d).irq = false := by
  simp [State.irq, State.powerOnReset, Bpe.powerOn]

/-- The array that a power cycle leaves, after the end of a stalled frame. -/
def State.cycledArr (s : State) : FlashMem := abandonedArr s.cfg s.dropFrame.draws s.dropFrame.dev

theorem powerOnReset_cycled_dev (s : State) : (s.powerOnReset true).dev = Dev.powerOn s.cfg s.cycledArr := by
  rw [State.cycledArr, ← s.dropFrame_cfg]
  rfl

theorem cycledArr_idle {s : State} (hs : s.bpe.stalled = false) (hidle : s.dev.pending = none) :
    s.cycledArr = s.dev.arr := by
  rw [State.cycledArr, dropFrame_of_not_stalled hs]
  exact abandonedArr_idle _ hidle

/-- The end of the stalled frame and the abandoned operation leave a free byte at each address. -/
theorem cycledArr_stalled {s : State} (hs : s.bpe.stalled = true) :
    ∃ n m, ∀ x, x < s.cfg.capacity →
      flashRead s.cycledArr x = Config.freeByte n x ∨ flashRead s.cycledArr x = Config.freeByte m x := by
  refine ⟨s.devCut.draws, s.draws, fun x hx => ?_⟩
  rw [State.cycledArr, dropFrame_of_stalled hs]
  exact (flashRead_abandonedArr_or _ x (arbitrary_arr_wf s.cfg s.draws s.dev)).imp_right
    fun hkept => hkept.trans (flashRead_arbitrary s.cfg s.draws s.dev hx)

/-- The device after a power cycle, field by field (R202, R210). -/
theorem Dev.powerOn_eq (p : Params) (m : FlashMem) :
    Dev.powerOn p m =
      { arr := m, pending := p.devPowerOn.pending, wel := p.devPowerOn.wel, qpi := p.devPowerOn.qpi,
        addr4 := if p.devVariant = .A then p.devPowerOn.addr4 else false, rsten := p.devPowerOn.rsten,
        dcfg := p.devPowerOn.dcfg, cur := none } := by
  cases hv : p.devVariant <;> simp [Dev.powerOn, hv]

/-- The device after a power cycle with R229's values. -/
theorem Dev.powerOn_default {p : Params} (m : FlashMem) (h : p.devPowerOn = defaultPowerOn) :
    Dev.powerOn p m =
      { arr := m, pending := none, wel := false, qpi := false, addr4 := false, rsten := false, dcfg := 15#4,
        cur := none } := by
  simp [Dev.powerOn, h, defaultPowerOn]

/-- Settles O60: the registers are what the reset writes, and the device is what the drop of the frame leaves, or the
power-on state with the array of the power cycle. -/
theorem powerOnResets : Obligations.PowerOnResets := by
  refine ⟨fun _ => rfl, fun withDevice s => ?_⟩
  obtain ⟨hfaults, hcfg, hclk⟩ := powerOnReset_kept withDevice s
  refine ⟨rfl, rfl, rfl, hfaults, hcfg, hclk, powerOnReset_irq withDevice s,
    powerOnReset_seqbuf withDevice s, ?_, ?_⟩
  · rintro rfl
    simp only [powerOnReset_cycled_dev]
    exact ⟨Dev.powerOn_eq _ _, Dev.powerOn_default _, cycledArr_idle, cycledArr_stalled⟩
  · rintro rfl
    exact ⟨fun hs => congrArg State.dev (dropFrame_of_not_stalled hs),
      fun hs => congrArg State.dev (dropFrame_of_stalled hs)⟩

end Sys2Proof.Machine
